-- ==== Sys2Proof/Word.lean ====
section
/-! DEFINITION. The byte, the one bit-pattern type of the model. Every other quantity of the 760 is an
integer ("All quantities are integers", 00_scope), so it is held as a `Nat` or an `Int`. -/

namespace Sys2Proof

/-- One byte of an external interface or of take memory. -/
abbrev Byte := BitVec 8

end Sys2Proof
end

