-- ==== Sys2Proof/Syntax.lean ====
section
/-! DEFINITION. The commands of the 760: one constructor of `Instr` for each row of
spec/opcode_table.json. An event on a pin or a bus carries what arrived with it; a request of the host
carries its message tag and its fields, `none` standing for a payload whose length fits none of the
kind's forms (R199). Fields are the numbers as they stand on the wire, before any range check. -/

namespace Sys2Proof

/-- The levels the 760 samples at one tick (R96, R116, R121), and the two choices the spec leaves to
the event: which of two works of one boundary tick comes first (R126, R169). -/
structure TickInputs where
  /-- ESTOP_A sampled open -/
  estopAOpen : Bool
  /-- ESTOP_B sampled open -/
  estopBOpen : Bool
  /-- ENABLE_IN sampled held -/
  enableHeld : Bool
  /-- GUARD0 to GUARD7 sampled open (tripped) -/
  guardsTripped : Vector Bool 8
  /-- R126: at a boundary the safety test's removal comes before the Governor's computation -/
  testEndFirst : Bool
  /-- R169: at a boundary the cue timer is judged before the completion of the approach -/
  cueTimerFirst : Bool
  deriving DecidableEq, Repr

/-- The two drive port lines into a Channel Unit, as sampled at a step (R28). -/
structure DriveLines where
  ready : Bool
  fault : Bool
  deriving DecidableEq, Repr

/-- How an encoder read completes (R22): a complete answer of six bytes (R201), or the window's close. -/
inductive ReadEnd where
  | answer (bytes : Vector Byte 6)
  | windowClosed
  deriving DecidableEq, Repr

/-- How the EEPROM lets a save end (R194): the valid header written and read back to match, a write
not acknowledged, or a read-back that differs from the snapshot. -/
inductive SaveOutcome where
  | headerVerified
  | notAcknowledged
  | readBackDiffers
  deriving DecidableEq, Repr

/-- The four fields of SET TIMEBASE (R14). -/
structure TimebaseArgs where
  source : Nat
  rateCode : Nat
  tpf : Nat
  holdoverLimit : Nat
  deriving DecidableEq, Repr

/-- The thirteen fields of CONFIGURE CHANNEL (R19, table of 2.2). -/
structure ChannelArgs where
  present : Nat
  zeroOffset : Int
  multiplier : Int
  softMin : Int
  softMax : Int
  vmax : Int
  accel : Int
  stopDecel : Int
  followingLimit : Int
  parkDelay : Nat
  releaseTime : Nat
  engageTime : Nat
  pickupWindow : Int
  deriving DecidableEq, Repr

/-- The source kind and parameter of SET ROUTE's channel form (R199). `other` is a source kind code the
form carries no parameter layout for. -/
inductive RouteArg where
  | rate (k : Nat)
  | position (k : Nat)
  | preset (physical : Nat) (value : Int)
  | hold
  | follow
  | other (kind : Nat)
  deriving DecidableEq, Repr

/-- The five fields of SET GEOMETRY (R65). -/
structure GeometryArgs where
  x0 : Int
  y0 : Int
  h : Int
  l0 : Int
  crewCeiling : Int
  deriving DecidableEq, Repr

/-- SET LOCATOR (R75). -/
structure LocatorArgs where
  index : Nat
  configured : Nat
  address : Nat
  optional : Nat
  window : Nat
  deriving DecidableEq, Repr

/-- SET TAG, tag form (R79). -/
structure TagArgs where
  tagId : Nat
  role : Nat
  baseRadius : Int
  deriving DecidableEq, Repr

/-- SET TAG, tracker form (R81). -/
structure TrackerArgs where
  minQuality : Nat
  staleAfter : Nat
  lostAfter : Nat
  growth : Int
  lostCap : Int
  defaultRadius : Int
  deriving DecidableEq, Repr

/-- A part and a start index, as the GET requests with parts carry them; `chain` is the chain index of
GET DIRECTORY's CHAIN part (R162), 0 elsewhere. -/
structure PartArgs where
  part : Nat
  start : Nat
  chain : Nat
  deriving DecidableEq, Repr

/-- SET ZONE's fields without its index (R95). `activation` is 0 ALWAYS, 1 GUARD, 2 OFF. -/
structure ZoneArgs where
  kind : Nat
  xmin : Int
  xmax : Int
  ymin : Int
  ymax : Int
  ceiling : Int
  clearance : Int
  activation : Nat
  guard : Nat
  deriving DecidableEq, Repr

/-- SET GOVERNOR, governor form (R97). -/
structure GovernorArgs where
  clearance : Int
  slowBand : Int
  decel : Int
  creep : Nat
  scaleRise : Nat
  autoResume : Nat
  deriving DecidableEq, Repr

/-- START SAFETY TEST (R124). -/
structure SafetyTestArgs where
  x : Int
  y : Int
  duration : Nat
  deriving DecidableEq, Repr

/-- One calibration point of a lens table (R130). -/
structure LensPoint where
  counts : Int
  value : Int
  deriving DecidableEq, Repr

/-- LOAD LENS TABLE, load form (R134): the points its point count announces. -/
structure LensTableArgs where
  channel : Nat
  points : List LensPoint
  deriving DecidableEq, Repr

/-- SET FOCUS TARGET (R137): a kind with that kind's fields, and the offset. -/
inductive FocusArg where
  | noTarget (offset : Int)
  | point (x y z offset : Int)
  | tag (tagId : Nat) (eyeHeight offset : Int)
  | other (kind : Nat)
  deriving DecidableEq, Repr

/-- RECORD (R150): `set` is the channel mask, `startKind` is 0 NOW, 1 AT_ROLL. -/
structure RecordArgs where
  slot : Nat
  name : List Byte
  set : Nat
  startKind : Nat
  deriving DecidableEq, Repr

/-- CREATE TAKE (R155). -/
structure CreateTakeArgs where
  slot : Nat
  name : List Byte
  set : Nat
  rateCode : Nat
  tpf : Nat
  frameCount : Nat
  deriving DecidableEq, Repr

/-- WRITE TAKE DATA (R156): `count` is the byte count the payload states. -/
structure WriteTakeArgs where
  slot : Nat
  offset : Nat
  count : Nat
  bytes : List Byte
  deriving DecidableEq, Repr

/-- READ TAKE DATA (R158). -/
structure ReadTakeArgs where
  slot : Nat
  offset : Nat
  count : Nat
  deriving DecidableEq, Repr

/-- SET TAKE ACCESS (R160): `access` is a flag set, bit 0 PLAY, bit 1 ERASE. -/
structure AccessArgs where
  slot : Nat
  access : Nat
  deriving DecidableEq, Repr

/-- The three replay parameters a CUE may carry (R166). -/
structure ReplayArgs where
  cueTimeout : Nat
  paceFall : Nat
  paceRise : Nat
  deriving DecidableEq, Repr

/-- CUE (R166): a slot, alone or with the replay parameters. -/
structure CueArgs where
  slot : Nat
  replay : Option ReplayArgs
  deriving DecidableEq, Repr

/-- SET REPORTS (R188): bit n of `mask` enables the n-th report kind. -/
structure ReportsArgs where
  mask : Nat
  interval : Nat
  deriving DecidableEq, Repr

/-- The commands, in the order of spec/opcode_table.json. -/
inductive Instr where
  | powerOnReset
  | tick (inp : TickInputs)
  | frameBoundary (inp : TickInputs)
  | referencePulse (dt : Nat)
  | pulseWindowClose
  | noPulseAfterEntry (dt : Nat)
  | holdoverLimitReached (inp : TickInputs)
  | encoderAnswer (ch : Fin 10) (bytes : Vector Byte 6) (lines : DriveLines)
  | encoderReadWindowClose (ch : Fin 10) (lines : DriveLines)
  | brakeTimerExpiry (ch : Fin 10) (read : ReadEnd) (lines : DriveLines)
  | parkDelayReached (ch : Fin 10) (read : ReadEnd) (lines : DriveLines)
  | controlInputStale (k : Fin 12) (inp : TickInputs)
  | pollSent
  | locatorAnswer (bytes : List Byte)
  | locatorAnswerWindowClose
  | discrepancyTimeExceeded (inp : TickInputs)
  | safetyTestEnd (inp : TickInputs)
  | recordFrameLimit (inp : TickInputs)
  | cueTimeout (inp : TickInputs)
  | frameReportDue (inp : TickInputs)
  | frameReceived (bytes : List Byte)
  | frameTimeout (bytes : List Byte)
  | requestAcceptance
  | messageSent
  | settingsLoadEnd (image : List Byte)
  | loadAckTimeout
  | saveEnd (outcome : SaveOutcome)
  | saveTimeout
  | setTimebase (tag : Byte) (args : Option TimebaseArgs)
  | getTimebase (tag : Byte) (args : Option Unit)
  | configureChannel (tag : Byte) (args : Option (Nat × ChannelArgs))
  | getChannel (tag : Byte) (args : Option Nat)
  | enableChannels (tag : Byte) (args : Option Nat)
  | disableChannels (tag : Byte) (args : Option Nat)
  | clearFaults (tag : Byte) (args : Option Nat)
  | setRoute (tag : Byte) (args : Option (Nat × RouteArg))
  | setRouteRouterForm (tag : Byte) (args : Option (Nat × Nat))
  | getRoutes (tag : Byte) (args : Option Unit)
  | controlSample (tag : Byte) (args : Option (List (Nat × Int)))
  | setGeometry (tag : Byte) (args : Option GeometryArgs)
  | getPose (tag : Byte) (args : Option Unit)
  | setLocator (tag : Byte) (args : Option LocatorArgs)
  | setTag (tag : Byte) (args : Option TagArgs)
  | setTagTrackerForm (tag : Byte) (args : Option TrackerArgs)
  | removeTag (tag : Byte) (args : Option Nat)
  | getCrew (tag : Byte) (args : Option PartArgs)
  | clearCrew (tag : Byte) (args : Option Nat)
  | setZone (tag : Byte) (args : Option (Nat × ZoneArgs))
  | setGovernor (tag : Byte) (args : Option GovernorArgs)
  | setGovernorStopForm (tag : Byte) (args : Option Nat)
  | resume (tag : Byte) (args : Option Unit)
  | resetStop (tag : Byte) (args : Option Unit)
  | startSafetyTest (tag : Byte) (args : Option SafetyTestArgs)
  | getSafety (tag : Byte) (args : Option PartArgs)
  | loadLensTable (tag : Byte) (args : Option LensTableArgs)
  | loadLensTableReadForm (tag : Byte) (args : Option Nat)
  | setFocusTarget (tag : Byte) (args : Option FocusArg)
  | record (tag : Byte) (args : Option RecordArgs)
  | stopRecord (tag : Byte) (args : Option Unit)
  | createTake (tag : Byte) (args : Option CreateTakeArgs)
  | writeTakeData (tag : Byte) (args : Option WriteTakeArgs)
  | closeTake (tag : Byte) (args : Option Nat)
  | readTakeData (tag : Byte) (args : Option ReadTakeArgs)
  | eraseTake (tag : Byte) (args : Option Nat)
  | setTakeAccess (tag : Byte) (args : Option AccessArgs)
  | getDirectory (tag : Byte) (args : Option PartArgs)
  | getPasses (tag : Byte) (args : Option Nat)
  | cue (tag : Byte) (args : Option CueArgs)
  | roll (tag : Byte) (args : Option Unit)
  | abortPlay (tag : Byte) (args : Option Unit)
  | release (tag : Byte) (args : Option Unit)
  | getStatus (tag : Byte) (args : Option Unit)
  | setReports (tag : Byte) (args : Option ReportsArgs)
  | setMode (tag : Byte) (args : Option Nat)
  | saveSettings (tag : Byte) (args : Option Unit)
  | lockSettings (tag : Byte) (args : Option Unit)
  | restart (tag : Byte) (args : Option Unit)
  | identify (tag : Byte) (args : Option Unit)
  | frameLengthDiscard (length : Byte)
  deriving DecidableEq, Repr

end Sys2Proof
end

