-- ==== Sys2Proof/Decode.lean ====
section
/-! DEFINITION. Decoding of table words. No row of spec/opcode_table.json gives its command any bits: a command of
the 760 arrives as an event or as a console frame (Machine/Link.lean reads those), never as a word. -/

namespace Sys2Proof

/-- The command that a word of the table spells: none, as no row of the table has bits. -/
def decodeTableWord (_nbits _w : Nat) : Option Instr := none

end Sys2Proof
end

