-- ==== Sys2Proof/Config.lean ====
section
/-! DEFINITION. What the spec leaves open and the model leaves free: constants without a body, so that
no proof can rest on a value of theirs. Each is named in a row of the assumption log. -/

namespace Sys2Proof

/-- The ways a quotient may be rounded to an integer. -/
inductive Rounding where
  | down | up | towardZero | nearestHalfUp | nearestHalfDown
  deriving DecidableEq, Repr, Inhabited

/-- The line rates the console link may be strapped to, in Mbit/s (R190). -/
inductive LineRate where
  | one | two | three
  deriving DecidableEq, Repr, Inhabited

/-- How a pulse's offset is rounded to 1/256 tick: R5 gives the unit and no rounding. Log entry 4. -/
opaque Config.pulseOffsetRounding : Rounding

/-- How the measured period's difference is rounded to 1/256 tick: R7 gives the unit and no rounding.
Log entry 4. -/
opaque Config.periodDifferenceRounding : Rounding

/-- What a locator status byte other than 0 and 1 is taken as (true: DEGRADED): R201 gives 0 and 1 only.
Log entry 5. -/
opaque Config.locatorStatusDegraded : Byte → Bool

/-- A part name as R198 sends names: 0 to 16 characters, the first `length` of `chars`. -/
structure PartName where
  length : Fin 17
  chars : Vector Byte 16
  deriving DecidableEq, Repr, Inhabited

/-- The part name IDENTIFY answers: R190 names the field and gives no value; R198 bounds it to 16 characters. Log
entry 6. -/
opaque Config.partName : PartName

/-- The silicon revision number IDENTIFY answers: R190 gives no value. Log entry 6. -/
opaque Config.siliconRevision : Nat

/-- The rate the console link is strapped to: a strap of the board (R190). Log entry 6. -/
opaque Config.lineRate : LineRate

/-- The bytes that stand on the wire in the place of a field the spec calls absent: R198 and R199 give
no encoding of an absent value. The argument is the byte's place in the field. Log entry 7. -/
opaque Config.absentByte : Nat → Byte

/-- What a FOLLOWING tick forms through the FOCUS table (R142): the focus demand in counts, the distance as the clamp
leaves it, and BEYOND_TABLE. -/
structure FocusFigures where
  demand : BitVec 32
  distance : BitVec 32
  beyondTable : Bool
  deriving DecidableEq, Repr, Inhabited

/-- What a FOLLOWING tick at an instant forms while no FOCUS table is loaded, which a settings image can bring about:
R142 clamps and maps through the table and states nothing without one. Log entry 31. -/
opaque Config.focusWithoutTable : Nat → FocusFigures

end Sys2Proof
end

