-- ==== Sys2Proof/Machine/Arith.lean ====
section
/-! DEFINITION. The integer arithmetic the rules name: ceil, the roundings of 00_scope, the integer square
root, and counters that saturate. -/

namespace Sys2Proof.Machine

/-- Quotient rounded up, for a positive divisor (ceil). -/
def ceilDiv (a b : Nat) : Nat := (a + b - 1) / b

/-- `n ÷ d` rounded toward minus infinity, for a positive divisor (floor). -/
def floorDiv (n : Int) (d : Nat) : Int := n / (d : Int)

/-- `n ÷ d` rounded to nearest, halves toward plus infinity, for any divisor but 0 (R131, R132). -/
def roundHalfUp (n d : Int) : Int :=
  if d < 0 then (2 * -n + -d) / (2 * -d) else (2 * n + d) / (2 * d)

/-- `n ÷ d` rounded to nearest, halves away from zero (R69). -/
def roundHalfAway (n : Int) (d : Nat) : Int :=
  let q : Nat := (2 * n.natAbs + d) / (2 * d)
  if n < 0 then -(q : Int) else (q : Int)

/-- `n ÷ d` under a rounding, for a positive divisor. -/
def roundBy (mode : Rounding) (n : Int) (d : Nat) : Int :=
  match mode with
  | .down => n / (d : Int)
  | .up => -((-n) / (d : Int))
  | .towardZero => n.tdiv (d : Int)
  | .nearestHalfUp => (2 * n + d) / (2 * (d : Int))
  | .nearestHalfDown => -((2 * -n + d) / (2 * (d : Int)))

/-- The bits of a root from the top down: `r` is the root found so far, bit `k` is tried next. -/
def isqrtBits : Nat → Nat → Nat → Nat
  | 0, _, r => r
  | k + 1, n, r => isqrtBits k n (if (r + 2 ^ k) * (r + 2 ^ k) ≤ n then r + 2 ^ k else r)

/-- The integer square root, rounded down, of a number below 2¹²⁸ (isqrt of 00_scope). -/
def isqrt (n : Nat) : Nat := isqrtBits 64 n 0

/-- 2⁶³ − 1, where R57 lets a product saturate. -/
def maxProduct : Nat := 9223372036854775807

/-- A counter that saturates at `top`. -/
def bump (top n : Nat) : Nat := min top (n + 1)

/-- A value brought within two ends. -/
def clampInt (lo hi x : Int) : Int := max lo (min hi x)

/-- A value brought within the signed 32-bit range (R70). -/
def clamp32 (x : Int) : Int := clampInt (-2147483648) 2147483647 x

/-- The number whose bit n is the n-th flag (R198). -/
def flagBits : List Bool → Nat
  | [] => 0
  | b :: bs => (if b then 1 else 0) + 2 * flagBits bs

end Sys2Proof.Machine
end

