-- ==== Sys2Proof/Machine/State.lean ====
section
/-! DEFINITION. The state of the 760, block by block as 00_scope's block overview lists the owners, and
its value after power-on reset. Plain data throughout; INVENTORY.md names the rule behind each field. -/

namespace Sys2Proof.Machine

/-! ### Time Base (chapter 1) -/

inductive RefSource where
  | internal | reference
  deriving DecidableEq, Repr

/-- The lock states, in the order of the table of 1.5. -/
inductive LockState where
  | freeRun | acquiring | locked | holdover | noReference
  deriving DecidableEq, Repr

/-- The frame marks of R4. -/
structure FrameMarks where
  slip : Bool
  holdover : Bool
  unlocked : Bool
  deriving DecidableEq, Repr

/-- A pulse found inside a boundary's window (R5): its instant, its offset in 1/256 of the tick in force
at the pulse, and that tick, one `tickTpf`th of `tickLen`. -/
structure PulseHit where
  instant : Nat
  offset : Int
  tickLen : Nat
  tickTpf : Nat
  deriving DecidableEq, Repr

/-- The Time Base. Instants and lengths of time are in fifths of a crystal period, the unit in which
every nominal frame period is a whole number (log entry 3). -/
structure TimeBase where
  source : RefSource
  rateCode : Nat
  tpf : Nat
  holdoverLimit : Nat
  /-- the lock state (R8) -/
  lock : LockState
  /-- the lock state as published at the most recent tick (R1, R8) -/
  pubLock : LockState
  frameNumber : Nat
  tickIndex : Nat
  /-- the first tick after the reset has come (R16) -/
  started : Bool
  /-- the last four verdicts, oldest first; true is good (R7) -/
  history : Vector Bool 4
  measured : Nat
  holdoverCount : Nat
  phaseEstablished : Bool
  lockLost : Bool
  slipCount : Nat
  /-- the marks published at the last boundary, of the frame that ended there (R4) -/
  marks : FrameMarks
  /-- the marks gathered so far for the frame in progress -/
  gathered : FrameMarks
  /-- instant of the boundary that began the frame in progress -/
  frameStart : Nat
  /-- instant at which the frame in progress is to end -/
  frameEnd : Nat
  /-- the length the ticks of the frame in progress are a share of (R2) -/
  frameLen : Nat
  /-- the TPF that the frame in progress runs on -/
  frameTpf : Nat
  /-- how many ticks the frame in progress has -/
  frameTicks : Nat
  /-- by how much the next boundary advances the frame number, 1 or 2 (R4, R12) -/
  frameStep : Nat
  /-- an accepted SET TIMEBASE ends the frame with the tick in progress (R14) -/
  cut : Bool
  /-- instant of the most recent tick -/
  lastTick : Nat
  /-- the pulse expectation (R6), absent when there is none -/
  expectation : Option Nat
  /-- REFERENCE has been taken and no pulse has come since (R6) -/
  entryWait : Bool
  /-- a good image with the source REFERENCE has loaded, and its boundary has not come (R16) -/
  acquireDue : Bool
  /-- the instant of the pulse that earned the newest verdict, when that is good (R7) -/
  lastGoodPulse : Option Nat
  /-- a boundary of the LOCKED state has passed and its window has not closed (R5) -/
  windowOpen : Bool
  /-- pulses since the close of the previous boundary's window: 0, 1, or 2 for more than one (R5) -/
  windowPulses : Nat
  /-- the pulse found in the window, if any -/
  windowHit : Option PulseHit
  deriving DecidableEq, Repr

/-! ### Channel Units (chapter 2) -/

inductive ChState where
  | disabled | releasing | active | parking | parked | stopping | faulted
  deriving DecidableEq, Repr

inductive StopPhase where
  | ramp | engage
  deriving DecidableEq, Repr

inductive FaultKind where
  | encoderLost | driveFault | driveNotReady | following
  deriving DecidableEq, Repr

/-- A set of fault kinds (R17). -/
structure FaultSet where
  encoderLost : Bool
  driveFault : Bool
  driveNotReady : Bool
  following : Bool
  deriving DecidableEq, Repr

/-- The configuration of 2.2. -/
structure ChannelConfig where
  present : Bool
  zeroOffset : Int
  multiplier : Int
  softMin : Int
  softMax : Int
  vmax : Int
  accel : Int
  stopDecel : Int
  followingLimit : Int
  parkDelay : Nat
  releaseTime : Nat
  engageTime : Nat
  pickupWindow : Int
  deriving DecidableEq, Repr

/-- The channel record (R17), with the marks it publishes at its step. -/
structure Channel where
  cfg : ChannelConfig
  state : ChState
  /-- the stop phase (R17); outside STOPPING the last one stands (DESIGN CHOICE, log entry 7) -/
  phase : StopPhase
  /-- demand position, Q8 counts -/
  p : Int
  /-- demand velocity, Q8 counts per tick -/
  v : Int
  /-- drive demand most recently sent, counts -/
  demand : Int
  demandStep : Int
  encoder : Int
  readGood : Bool
  badRun : Nat
  encoderErrors : Nat
  faults : FaultSet
  warn : Bool
  limit : Bool
  /-- the brake timer (R27), 0 while none runs (DESIGN CHOICE, log entry 7) -/
  brakeTimer : Nat
  rest : Nat
  /-- the ready and fault lines as sampled at the most recent step (R28) -/
  ready : Bool
  faultLine : Bool
  /-- the unit value most recently published (R18, R21) -/
  unitValue : Option Int
  /-- it was published since the channel became present, and contributes to the pose (R66) -/
  unitFresh : Bool
  /-- at target at the most recent step (R61) -/
  atTarget : Bool
  /-- a clamped TAKE step was taken in the frame in progress (R62, R152) -/
  overspeed : Bool
  /-- the same of the frame just ended -/
  overspeedLast : Bool
  /-- the read issued at the most recent tick has not completed (R22) -/
  readPending : Bool
  deriving DecidableEq, Repr

/-! ### Demand Router (chapter 3) -/

/-- A configured source with its parameter (R42, R43). -/
inductive RouteSource where
  | rate (k : Fin 12)
  | position (k : Fin 12)
  | preset (counts : Int) (physical : Option Int)
  | hold
  | follow
  deriving DecidableEq, Repr

/-- An active source: a configured one, or one the Player sets (R42). -/
inductive ActiveSource where
  | own (src : RouteSource)
  | approach (target : Int)
  | take
  deriving DecidableEq, Repr

structure Route where
  configured : RouteSource
  active : ActiveSource
  armed : Bool
  deriving DecidableEq, Repr

/-- One control input (3.2). -/
structure Control where
  value : Int
  age : Nat
  stale : Bool
  deriving DecidableEq, Repr

structure Router where
  routes : Vector Route 10
  controls : Vector Control 12
  /-- ms -/
  controlTimeout : Nat
  deadband : Nat
  deriving DecidableEq, Repr

/-! ### Pose Unit (chapter 4) -/

structure Geometry where
  x0 : Int
  y0 : Int
  h : Int
  l0 : Int
  crewCeiling : Int
  deriving DecidableEq, Repr

structure Point3 where
  x : Int
  y : Int
  z : Int
  deriving DecidableEq, Repr

/-- The kinematic inputs of R66 after reduction and clamping, and the horizontal radius of R70. -/
structure Kinematics where
  t : Int
  s : Int
  e : Int
  l : Int
  r : Int
  deriving DecidableEq, Repr

/-- The previous pose of R71 with the unit values it was formed from. -/
structure PrevPose where
  head : Point3
  units : Vector Int 4
  contributed : Vector Bool 4
  deriving DecidableEq, Repr

structure PoseUnit where
  geometry : Geometry
  geometrySet : Bool
  head : Point3
  /-- mm/s -/
  speed : Int
  kin : Kinematics
  liftClamp : Bool
  reachClamp : Bool
  incomplete : Bool
  contributed : Vector Bool 4
  poseFrame : Nat
  poseTick : Nat
  prev : Option PrevPose
  deriving DecidableEq, Repr

/-! ### Locator Bus Controller and Crew Tracker (chapter 5) -/

inductive LinkState where
  | absent | searching | online | missing | offline
  deriving DecidableEq, Repr

structure Locator where
  configured : Bool
  address : Nat
  optional : Bool
  /-- answer window, µs -/
  window : Nat
  link : LinkState
  /-- results of the last eight polls, oldest first; true is good -/
  history : Vector Bool 8
  misses : Nat
  crcErrors : Nat
  degraded : Bool
  beenOnline : Bool
  deriving DecidableEq, Repr

/-- A kept sighting, with its locator index and its order in the answer (R77). -/
structure Sighting where
  tagId : Nat
  x : Int
  y : Int
  quality : Nat
  locator : Nat
  order : Nat
  deriving DecidableEq, Repr

/-- A running poll round (R76): the slot in progress and those to come, by locator index. -/
structure Round where
  /-- the round's frame -/
  frame : Nat
  current : Fin 8
  /-- the address that the slot's poll carries -/
  address : Nat
  /-- the poll has been sent and the answer window is open -/
  answering : Bool
  /-- the slot's result is to be discarded (R75) -/
  discard : Bool
  toCome : List (Fin 8)
  sightings : List Sighting
  deriving DecidableEq, Repr

structure LocatorBus where
  locators : Vector Locator 8
  round : Option Round
  deriving DecidableEq, Repr

inductive Role where
  | crew | talent | equipment | test
  deriving DecidableEq, Repr

structure TagEntry where
  tagId : Nat
  role : Role
  baseRadius : Int
  deriving DecidableEq, Repr

structure TrackerParams where
  minQuality : Nat
  staleAfter : Nat
  lostAfter : Nat
  growth : Int
  lostCap : Int
  defaultRadius : Int
  deriving DecidableEq, Repr

inductive CrewState where
  | tracked | stale | lost
  deriving DecidableEq, Repr

/-- One entry of the crew table (table of 5.4). -/
structure CrewEntry where
  tagId : Nat
  role : Role
  x : Int
  y : Int
  baseRadius : Int
  radius : Int
  quality : Nat
  locator : Option Nat
  firstSeen : Nat
  lastSeen : Nat
  unseen : Nat
  state : CrewState
  deriving DecidableEq, Repr

structure CrewTracker where
  table : List CrewEntry
  directory : List TagEntry
  params : TrackerParams
  overflow : Bool
  membership : Nat
  warmUp : Bool
  /-- the round's frame of the most recent round end (R90) -/
  roundFrame : Nat
  deriving DecidableEq, Repr

/-! ### Separation Governor (chapter 6) -/

inductive ZoneKind where
  | keepOut | exit
  deriving DecidableEq, Repr

inductive Activation where
  | always
  | guard (g : Fin 8)
  | off
  deriving DecidableEq, Repr

structure Zone where
  kind : ZoneKind
  xmin : Int
  xmax : Int
  ymin : Int
  ymax : Int
  ceiling : Int
  clearance : Int
  activation : Activation
  deriving DecidableEq, Repr

structure GovernorParams where
  /-- C -/
  clearance : Int
  /-- S -/
  slowBand : Int
  /-- A -/
  decel : Int
  creep : Nat
  scaleRise : Nat
  autoResume : Bool
  deriving DecidableEq, Repr

inductive LatchCause where
  | governor | crewOverflow | locatorOffline
  deriving DecidableEq, Repr

/-- A crew entry, by its tag id, or a zone, by its index. -/
inductive LatchItem where
  | tag (id : Nat)
  | zone (index : Nat)
  deriving DecidableEq, Repr

/-- The latch record (R107). -/
structure Latch where
  isSet : Bool
  governor : Bool
  crewOverflow : Bool
  locatorOffline : Bool
  setFrame : Option Nat
  firstCause : Option LatchCause
  firstItem : Option LatchItem
  releaseHeld : Bool
  deriving DecidableEq, Repr

/-- The frame figures of R106. -/
structure FrameFigures where
  minScale : Nat
  near : Nat
  governed : Bool
  deriving DecidableEq, Repr

/-- The caps of R104 that cut a tick's target. -/
structure Caps where
  mode : Bool
  warmUp : Bool
  locator : Bool
  latch : Bool
  deriving DecidableEq, Repr

structure Governor where
  zones : Vector Zone 16
  /-- raw samples of the most recent tick; true is tripped -/
  guardSample : Vector Bool 8
  /-- debounced states; true is tripped -/
  guardState : Vector Bool 8
  params : GovernorParams
  scale : Nat
  target : Nat
  caps : Caps
  limiting : Option (LatchItem × Int)
  braking : Nat
  near : Nat
  /-- every item of the most recent tick had an effective margin of at least S ÷ 4 (R108, R110) -/
  marginsReady : Bool
  releaseReady : Bool
  latch : Latch
  /-- the figures gathered over the frame in progress, and those last published -/
  figures : FrameFigures
  published : FrameFigures
  deriving DecidableEq, Repr

/-! ### Stop Supervisor (chapter 7) -/

/-- The stop states, in the order of the table of R114, which numbers them (R198). -/
inductive StopState where
  | emergency | protective | hold | run
  deriving DecidableEq, Repr

/-- The cause set of R114. -/
structure Causes where
  estopA : Bool
  estopB : Bool
  discrepancy : Bool
  armFault : Bool
  latch : Bool
  enableReleased : Bool
  deriving DecidableEq, Repr

structure EstopChannel where
  /-- last sample; true is open -/
  sampleOpen : Bool
  /-- debounced state; true is open -/
  isOpen : Bool
  deriving DecidableEq, Repr

inductive TestState where
  | none | running | pass | fail
  deriving DecidableEq, Repr

/-- The safety test record (7.7). -/
structure TestRecord where
  state : TestState
  x : Int
  y : Int
  duration : Nat
  remaining : Nat
  startFrame : Nat
  latchFrame : Option Nat
  latchCause : Option LatchCause
  latchItem : Option LatchItem
  endFrame : Option Nat
  deriving DecidableEq, Repr

structure StopSupervisor where
  causes : Causes
  state : StopState
  /-- the stop state before the most recent change -/
  prev : StopState
  a : EstopChannel
  b : EstopChannel
  /-- the discrepancy timer; absent when it is stopped -/
  discTimer : Option Nat
  /-- ms -/
  discTime : Nat
  bothOpen : Bool
  /-- last sample of ENABLE_IN; true is held -/
  enableSample : Bool
  enableHeld : Bool
  armFaults : Vector Bool 4
  /-- stopped frame mark of the frame in progress, and the one last published -/
  mark : Bool
  pubMark : Bool
  test : TestRecord
  /-- the inputs have been sampled since the reset (R129) -/
  sampled : Bool
  deriving DecidableEq, Repr

/-! ### Lens Unit (chapter 8) -/

inductive FocusKind where
  | none | point | tag
  deriving DecidableEq, Repr

/-- The focus target record (8.4). -/
structure FocusTarget where
  kind : FocusKind
  x : Int
  y : Int
  z : Int
  tagId : Nat
  eyeHeight : Int
  offset : Int
  deriving DecidableEq, Repr

inductive FollowState where
  | inactive | following | holding | lost
  deriving DecidableEq, Repr

/-- The follow record (R138). -/
structure FollowRecord where
  state : FollowState
  demand : Int
  distance : Option Int
  followLost : Bool
  beyondTable : Bool
  deriving DecidableEq, Repr

structure LensUnit where
  /-- the tables of ZOOM, FOCUS and IRIS; a table not loaded has no points -/
  tables : Vector (List LensPoint) 3
  values : Vector (Option Int) 3
  target : FocusTarget
  follow : FollowRecord
  deriving DecidableEq, Repr

/-! ### Take Memory and Take Engine (chapters 9 and 10) -/

inductive PassResult where
  | frameTrue | paceLost | degraded | aborted | stopped
  deriving DecidableEq, Repr

/-- The flags of R176. -/
structure PassFlags where
  governed : Bool
  paused : Bool
  slip : Bool
  holdover : Bool
  unlocked : Bool
  overspeed : Bool
  channelFault : Bool
  deriving DecidableEq, Repr

/-- The pass record (R177); `result` is absent while the pass runs. -/
structure PassRecord where
  slot : Fin 32
  rollFrame : Nat
  endFrame : Nat
  ticks : Nat
  lag : Nat
  lagFrames : Nat
  paceFall : Nat
  paceRise : Nat
  flags : PassFlags
  result : Option PassResult
  deriving DecidableEq, Repr

inductive TakeState where
  | empty | recording | loading | ready
  deriving DecidableEq, Repr

/-- The take flags of R149. -/
structure TakeFlags where
  truncated : Bool
  estopEnd : Bool
  slip : Bool
  holdover : Bool
  deriving DecidableEq, Repr

/-- One slot of the take directory (R149). Slot n of the spec is index n − 1. -/
structure Slot where
  state : TakeState
  name : List Byte
  /-- the channel set, ascending -/
  set : List (Fin 10)
  rateCode : Nat
  tpf : Nat
  frames : Nat
  written : Nat
  chain : List Nat
  play : Bool
  erase : Bool
  flags : TakeFlags
  created : Nat
  lastPass : Option PassRecord
  deriving DecidableEq, Repr

/-- Take memory: the 1024 × 1024 bytes of the blocks as cells (address block × 1024 + byte), the free
list, the directory and the pass history. -/
structure TakeMemory where
  cells : List Host.Cell
  free : List Nat
  slots : Vector Slot 32
  passes : List PassRecord
  passCount : Nat
  deriving DecidableEq, Repr

inductive RecorderState where
  | idle | armed | recording
  deriving DecidableEq, Repr

inductive StartKind where
  | now | atRoll
  deriving DecidableEq, Repr

structure Recorder where
  state : RecorderState
  slot : Option (Fin 32)
  startKind : StartKind
  /-- bytes of its current block filled with records -/
  fill : Nat
  deriving DecidableEq, Repr

inductive PlayerState where
  | idle | cueing | cued | playing | held
  deriving DecidableEq, Repr

/-- The Player (R165), with the interpolated positions it publishes (R174). -/
structure Player where
  state : PlayerState
  slot : Option (Fin 32)
  cueTimeout : Nat
  paceFall : Nat
  paceRise : Nat
  cueTimer : Nat
  cueFlag : Bool
  rollPending : Bool
  /-- the take clock P, take ticks × 1024 -/
  clock : Nat
  rate : Nat
  lag : Nat
  ticks : Nat
  pass : Option PassRecord
  positions : Vector Int 10
  deriving DecidableEq, Repr

/-! ### Console Link Controller and Settings Store (chapters 11 and 12) -/

inductive Mode where
  | starting | setup | operate
  deriving DecidableEq, Repr

/-- The result codes, in the order of the table of R186. -/
inductive Result where
  | ok | unknownKind | badFormat | outOfRange | wrongMode | wrongState | busy | locked | notFound
  | noSpace | occupied | isProtected | incomplete | noTable | rateMismatch | notLocked | refusedSafety
  deriving DecidableEq, Repr

/-- One field of a reply or report: a number of a given width in bytes, a string of bytes, or the place
of an absent value. -/
inductive Field where
  | num (width : Nat) (value : Int)
  | text (bytes : List Byte)
  | absent (width : Nat)
  deriving DecidableEq, Repr

/-- The report kinds, in the order of R187. -/
inductive ReportKind where
  | frame | safety | take | pass | crew | timebase | fault | save
  deriving DecidableEq, Repr

/-- A message of the output queue (R187). -/
inductive Message where
  | reply (kind tag : Byte) (result : Result) (fields : List Field)
  | report (kind : ReportKind) (fields : List Field)
  deriving DecidableEq, Repr

/-- The events of a TAKE report (R163, R182). -/
inductive TakeEvent where
  | recordArmed | recordStarted | recordEnded | recordCancelled | takeCreated | takeLoaded | takeErased
  | accessChanged | cueTaken | cueReady | cueTimeout | cueFailed | rollWithdrawn | passStarted | takeHeld
  | playerReleased
  deriving DecidableEq, Repr

/-- How a recording ended (R154). -/
inductive Ending where
  | stopRecord | frameLimit | noBlock | emergency | restart
  deriving DecidableEq, Repr

/-- A report raised by an event, before its content is read off the state the event leaves. -/
inductive Raise where
  | frame
  | safety
  | take (event : TakeEvent) (slot : Option (Fin 32)) (ending : Option Ending) (kept : Bool)
      (channel : Option (Fin 10))
  | pass (closed : Option PassRecord)
  | crew
  | timebase (old : LockState) (slip : Bool)
  | fault (ch : Fin 10)
  | save (saved : Bool) (frame : Nat)
  deriving DecidableEq, Repr

/-- A valid frame waiting to be served (R185). -/
structure Request where
  kind : Byte
  tag : Byte
  payload : List Byte
  deriving DecidableEq, Repr

structure Link where
  /-- the bytes of the frame being received, its SYNC first; empty while hunting (R184) -/
  rx : List Byte
  requests : List Request
  /-- the messages waiting, in their order, and the one in transmission (R187) -/
  out : List Message
  sending : Option Message
  /-- reports that wait for a place the message in transmission still holds (R187) -/
  waiting : List Message
  /-- reports raised in the event in progress; empty between events -/
  raised : List Raise
  mask : Vector Bool 8
  interval : Nat
  counter : Nat
  linkErrors : Nat
  powerOn : Bool
  mode : Mode
  deriving DecidableEq, Repr

/-- A save in flight (R194): the image of its snapshot, and the frame number at acceptance. -/
structure Save where
  image : List Byte
  frame : Nat
  deriving DecidableEq, Repr

structure Store where
  valid : Bool
  locked : Bool
  save : Option Save
  /-- the bytes of the settings image in the EEPROM as the part last wrote them (R194): header 0000h from
  the first write of a save to its last, 0031h after it; absent while the part has written none -/
  eeprom : Option (List Byte)
  deriving DecidableEq, Repr

/-! ### The machine -/

structure State where
  tb : TimeBase
  chans : Vector Channel 10
  router : Router
  pose : PoseUnit
  bus : LocatorBus
  crew : CrewTracker
  gov : Governor
  stop : StopSupervisor
  lens : LensUnit
  mem : TakeMemory
  recorder : Recorder
  player : Player
  link : Link
  store : Store
  pending : List Instr
  deriving DecidableEq, Repr

/-- No command of the 760 faults: every row of the table has an effect in every state. -/
inductive Fault where
  deriving DecidableEq, Repr

/-- Why a command is refused. -/
inductive Refusal where
  /-- Raised by an arm of `exec` whose command has no meaning yet; safe: the model stops where the 760
  goes on. No arm of this model raises it. -/
  | notModelled (mnemonic : String)
  deriving DecidableEq, Repr

/-! ### Values after power-on reset -/

/-- Nominal frame period of a rate code (1.2), in fifths of a crystal period of 24.576 MHz. -/
def nominalPeriod : Nat → Nat
  | 0 => 5125120
  | 1 => 5120000
  | 2 => 4915200
  | 3 => 4100096
  | 4 => 4096000
  | 5 => 2457600
  | 6 => 2050048
  | _ => 2048000

/-- R16. -/
def TimeBase.initial : TimeBase where
  source := .internal
  rateCode := 2
  tpf := 20
  holdoverLimit := 50
  lock := .freeRun
  pubLock := .freeRun
  frameNumber := 0
  tickIndex := 0
  started := false
  history := Vector.replicate 4 false
  measured := nominalPeriod 2
  holdoverCount := 0
  phaseEstablished := false
  lockLost := false
  slipCount := 0
  marks := ⟨false, false, false⟩
  gathered := ⟨false, false, false⟩
  frameStart := 0
  frameEnd := 0
  frameLen := nominalPeriod 2
  frameTpf := 20
  frameTicks := 20
  frameStep := 1
  cut := false
  lastTick := 0
  expectation := none
  entryWait := false
  acquireDue := false
  lastGoodPulse := none
  windowOpen := false
  windowPulses := 0
  windowHit := none

/-- The defaults of 2.2. -/
def ChannelConfig.default : ChannelConfig where
  present := false
  zeroOffset := 0
  multiplier := 65536
  softMin := -1000000
  softMax := 1000000
  vmax := 2560
  accel := 256
  stopDecel := 1024
  followingLimit := 4096
  parkDelay := 0
  releaseTime := 200
  engageTime := 200
  pickupWindow := 512

def FaultSet.empty : FaultSet := ⟨false, false, false, false⟩

/-- R41. DESIGN CHOICE (log entry 10): no rule gives the stop phase, the lines as sampled, the marks and the unit value
most recently published of a channel that has made no step since the reset; the unit value is held as none, which GET
CHANNEL (R21) sends as an absent field (log entry 7). -/
def Channel.initial : Channel where
  cfg := .default
  state := .disabled
  phase := .ramp
  p := 0
  v := 0
  demand := 0
  demandStep := 0
  encoder := 0
  readGood := true
  badRun := 0
  encoderErrors := 0
  faults := .empty
  warn := false
  limit := false
  brakeTimer := 0
  rest := 0
  ready := false
  faultLine := false
  unitValue := none
  unitFresh := false
  atTarget := false
  overspeed := false
  overspeedLast := false
  readPending := false

/-- R63. -/
def Router.initial : Router where
  routes := Vector.replicate 10 ⟨.hold, .own .hold, false⟩
  controls := Vector.replicate 12 ⟨0, 65535, true⟩
  controlTimeout := 200
  deadband := 400

/-- R73 and the defaults of 4.1. -/
def PoseUnit.initial : PoseUnit where
  geometry := ⟨0, 0, 1800, 3000, 2200⟩
  geometrySet := false
  head := ⟨0, 0, 0⟩
  speed := 0
  kin := ⟨0, 0, 0, 0, 0⟩
  liftClamp := false
  reachClamp := false
  incomplete := true
  contributed := Vector.replicate 4 false
  poseFrame := 0
  poseTick := 0
  prev := none

/-- R93: the entry of index i holds the default fields and is ABSENT. -/
def Locator.initial (i : Nat) : Locator where
  configured := false
  address := i + 1
  optional := false
  window := 600
  link := .absent
  history := Vector.replicate 8 false
  misses := 0
  crcErrors := 0
  degraded := false
  beenOnline := false

def LocatorBus.initial : LocatorBus where
  locators := Vector.ofFn fun i : Fin 8 => Locator.initial i.val
  round := none

/-- R93. The round's frame before any round has ended is 0 (DESIGN CHOICE, log entry 10). -/
def CrewTracker.initial : CrewTracker where
  table := []
  directory := []
  params := ⟨4, 3, 50, 80, 3000, 500⟩
  overflow := false
  membership := 0
  warmUp := true
  roundFrame := 0

def Latch.initial : Latch := ⟨false, false, false, false, none, none, none, false⟩

/-- R113, R96. -/
def Governor.initial : Governor where
  zones := Vector.replicate 16 ⟨.keepOut, 0, 0, 0, 0, 0, 0, .off⟩
  guardSample := Vector.replicate 8 true
  guardState := Vector.replicate 8 true
  params := ⟨1500, 3000, 1000, 64, 8, false⟩
  scale := 0
  target := 0
  caps := ⟨false, false, false, false⟩
  limiting := none
  braking := 0
  near := 0
  marginsReady := false
  releaseReady := false
  latch := .initial
  figures := ⟨0, 0, false⟩
  published := ⟨0, 0, false⟩

/-- R129. -/
def StopSupervisor.initial : StopSupervisor where
  causes := ⟨false, false, false, false, false, true⟩
  state := .hold
  prev := .hold
  a := ⟨false, false⟩
  b := ⟨false, false⟩
  discTimer := none
  discTime := 100
  bothOpen := false
  enableSample := false
  enableHeld := false
  armFaults := Vector.replicate 4 false
  mark := false
  pubMark := false
  test := ⟨.none, 0, 0, 0, 0, 0, none, none, none, none⟩
  sampled := false

def FocusTarget.default : FocusTarget := ⟨.none, 0, 0, 0, 0, 1600, 0⟩

/-- R145. -/
def LensUnit.initial : LensUnit where
  tables := Vector.replicate 3 []
  values := Vector.replicate 3 none
  target := .default
  follow := ⟨.inactive, 0, none, false, false⟩

/-- An EMPTY slot (R149). -/
def Slot.empty : Slot where
  state := .empty
  name := []
  set := []
  rateCode := 0
  tpf := 0
  frames := 0
  written := 0
  chain := []
  play := false
  erase := false
  flags := ⟨false, false, false, false⟩
  created := 0
  lastPass := none

/-- R164, after power-on reset. -/
def TakeMemory.initial : TakeMemory where
  cells := []
  free := List.range 1024
  slots := Vector.replicate 32 .empty
  passes := []
  passCount := 0

def Recorder.initial : Recorder := ⟨.idle, none, .now, 0⟩

/-- R183. -/
def Player.initial : Player where
  state := .idle
  slot := none
  cueTimeout := 3000
  paceFall := 16
  paceRise := 8
  cueTimer := 0
  cueFlag := false
  rollPending := false
  clock := 0
  rate := 0
  lag := 0
  ticks := 0
  pass := none
  positions := Vector.replicate 10 0

/-- R197. -/
def Link.initial : Link where
  rx := []
  requests := []
  out := []
  sending := none
  waiting := []
  raised := []
  mask := Vector.replicate 8 true
  interval := 0
  counter := 0
  linkErrors := 0
  powerOn := true
  mode := .starting

/-- R197: the load has begun (the mode is STARTING). -/
def Store.initial : Store := ⟨false, false, none, none⟩

/-- The machine right after power-on reset; no command waits. -/
def State.reset : State where
  tb := .initial
  chans := Vector.replicate 10 .initial
  router := .initial
  pose := .initial
  bus := .initial
  crew := .initial
  gov := .initial
  stop := .initial
  lens := .initial
  mem := .initial
  recorder := .initial
  player := .initial
  link := .initial
  store := .initial
  pending := []

end Sys2Proof.Machine
end

