-- ==== Sys2Proof/Machine/Bytes.lean ====
section
/-! DEFINITION. Bytes on the external interfaces (chapter 12): byte order, the three check codes, and the
console frame. -/

namespace Sys2Proof.Machine

/-- The low `w` bytes of a number, least significant first (R198). -/
def leBytes : Nat → Nat → List Byte
  | 0, _ => []
  | w + 1, n => BitVec.ofNat 8 n :: leBytes w (n / 256)

/-- The number that bytes spell, least significant first (R198). -/
def leNat : List Byte → Nat
  | [] => 0
  | b :: bs => b.toNat + 256 * leNat bs

/-- A signed number in `w` bytes, two's complement. -/
def intBytes (w : Nat) (v : Int) : List Byte := leBytes w (v % (256 ^ w : Nat)).toNat

/-- The signed reading of an unsigned number of `w` bytes. -/
def toSigned (w n : Nat) : Int := if 2 * n < 256 ^ w then (n : Int) else (n : Int) - (256 ^ w : Nat)

/-- Takes an unsigned number of `w` bytes off the front. -/
def getNat (w : Nat) (bs : List Byte) : Option (Nat × List Byte) :=
  if w ≤ bs.length then some (leNat (bs.take w), bs.drop w) else none

/-- Takes a signed number of `w` bytes off the front. -/
def getInt (w : Nat) (bs : List Byte) : Option (Int × List Byte) :=
  if w ≤ bs.length then some (toSigned w (leNat (bs.take w)), bs.drop w) else none

/-- `k` shifts of the CRC-16 register (R199). -/
def crc16Shift : Nat → BitVec 16 → BitVec 16
  | 0, c => c
  | k + 1, c => crc16Shift k (if c.msb then (c <<< 1) ^^^ 0x1021#16 else c <<< 1)

/-- The CRC-16 of R199: polynomial 1021h, initial value FFFFh, no reflection, no final inversion. -/
def crc16 (bs : List Byte) : BitVec 16 :=
  bs.foldl (fun c b => crc16Shift 8 (c ^^^ BitVec.shiftLeft (b.setWidth 16) 8)) 0xFFFF#16

def crc8Shift : Nat → BitVec 8 → BitVec 8
  | 0, c => c
  | k + 1, c => crc8Shift k (if c.msb then (c <<< 1) ^^^ 0x1D#8 else c <<< 1)

/-- The encoder's check byte (R201): polynomial 1Dh, initial value FFh, no final inversion. DEDUCED (log entry 30):
neither input nor output is reflected. -/
def crc8 (bs : List Byte) : BitVec 8 := bs.foldl (fun c b => crc8Shift 8 (c ^^^ b)) 0xFF#8

def crc32Shift : Nat → BitVec 32 → BitVec 32
  | 0, c => c
  | k + 1, c => crc32Shift k (if c.getLsbD 0 then (c >>> 1) ^^^ 0xEDB88320#32 else c >>> 1)

/-- The CRC-32 of R201: polynomial 04C11DB7h reflected, initial value and final inversion FFFFFFFFh. -/
def crc32 (bs : List Byte) : BitVec 32 :=
  bs.foldl (fun c b => crc32Shift 8 (c ^^^ b.setWidth 32)) 0xFFFFFFFF#32 ^^^ 0xFFFFFFFF#32

/-- The bytes of one field of a reply or report. -/
def Field.bytes : Field → List Byte
  | .num w v => intBytes w v
  | .text bs => bs
  | .absent w => (List.range w).map Config.absentByte

/-- An optional value of `w` bytes. -/
def optField (w : Nat) : Option Int → Field
  | some v => .num w v
  | none => .absent w

def flag (b : Bool) : Field := .num 1 (if b then 1 else 0)
def flags (bs : List Bool) : Field := .num 1 (flagBits bs)
def u8 (n : Nat) : Field := .num 1 n
def u16 (n : Nat) : Field := .num 2 n
def u32 (n : Nat) : Field := .num 4 n
def i32 (v : Int) : Field := .num 4 v
/-- A name: one length byte, then its characters (R198). -/
def nameField (bs : List Byte) : Field := .text (BitVec.ofNat 8 bs.length :: bs)

/-- The characters of a part name, at most 16 (R190, R198). -/
def partNameBytes (n : PartName) : List Byte := n.chars.toList.take n.length.val

/-- The SYNC byte of a console frame (R184). -/
def sync : Byte := 0xA5#8

/-- A console frame (12.1): SYNC, length, kind, tag, payload, CRC-16 low byte first (R199). -/
def consoleFrame (kind tag : Byte) (payload : List Byte) : List Byte :=
  let body := BitVec.ofNat 8 payload.length :: kind :: tag :: payload
  sync :: body ++ leBytes 2 (crc16 body).toNat

/-- The kind byte of a report (12.1). -/
def ReportKind.code (k : ReportKind) : Byte := BitVec.ofNat 8 (0xF0 + k.ctorIdx)

/-- The bytes a message goes out as: a reply carries its request's kind + 80h and tag and begins with the
result byte (R199); a report carries its kind and the tag 0. DESIGN CHOICE (log entry 29): the kind + 80h of a request
of kind 80h to FFh, answered UNKNOWN_KIND or BUSY, wraps modulo 256. -/
def Message.wire : Message → List Byte
  | .reply kind tag result fields =>
    consoleFrame (kind + 0x80#8) tag (BitVec.ofNat 8 result.ctorIdx :: fields.flatMap Field.bytes)
  | .report kind fields => consoleFrame kind.code 0#8 (fields.flatMap Field.bytes)

end Sys2Proof.Machine
end

