-- ==== Sys2Proof/Machine/Views.lean ====
section
/-! DEFINITION. What is read off the state: values the spec derives from what a block holds, and the
lines that follow from a channel's state. -/

namespace Sys2Proof.Machine

/-- Frames per second of a rate code, as numerator and denominator (1.2). -/
def framesPerSecond : Nat → Nat × Nat
  | 0 => (24000, 1001)
  | 1 => (24, 1)
  | 2 => (25, 1)
  | 3 => (30000, 1001)
  | 4 => (30, 1)
  | 5 => (50, 1)
  | 6 => (60000, 1001)
  | _ => (60, 1)

/-- R3: TPF in 8..40 and the exact tick rate in 400..2000 Hz. -/
def tickRateOk (code tpf : Nat) : Bool :=
  let (n, d) := framesPerSecond code
  8 ≤ tpf && tpf ≤ 40 && 400 * d ≤ n * tpf && n * tpf ≤ 2000 * d

/-- R3: the exact tick rate rounded to the nearest whole Hz, halves up. -/
def nominalTickRate (code tpf : Nat) : Nat :=
  let (n, d) := framesPerSecond code
  (2 * n * tpf + d) / (2 * d)

def TimeBase.tickRate (tb : TimeBase) : Nat := nominalTickRate tb.rateCode tb.tpf

/-- Milliseconds as ticks or steps, rounded up (R27, R49, R117). -/
def msToTicks (ms rate : Nat) : Nat := ceilDiv (ms * rate) 1000

def isArm (ch : Fin 10) : Bool := ch.val < 4
def isHead (ch : Fin 10) : Bool := 4 ≤ ch.val && ch.val < 7
def isLens (ch : Fin 10) : Bool := 7 ≤ ch.val

/-- FOCUS (chapter 2). -/
def focus : Fin 10 := 8

/-- Drive enable by state (table of 2.4). -/
def Channel.driveEnable (c : Channel) : Bool :=
  match c.state with
  | .releasing | .active | .parking | .stopping => true
  | .disabled | .parked | .faulted => false

/-- Brake applied by state and phase (table of 2.4). -/
def Channel.brakeApplied (c : Channel) : Bool :=
  match c.state with
  | .releasing | .active => false
  | .stopping => decide (c.phase = .engage)
  | .disabled | .parking | .parked | .faulted => true

/-- The encoder position lies within the soft limits, ends included (R26). -/
def Channel.withinLimits (c : Channel) : Bool :=
  c.cfg.softMin ≤ c.encoder && c.encoder ≤ c.cfg.softMax

/-- R191: absent, DISABLED, PARKED or FAULTED, or v at 0 outside the RAMP phase. -/
def Channel.atRest (c : Channel) : Bool :=
  !c.cfg.present ||
  match c.state with
  | .disabled | .parked | .faulted => true
  | .stopping => c.v == 0 && decide (c.phase ≠ .ramp)
  | _ => c.v == 0

/-- R42: held by the Player. -/
def Route.held (r : Route) : Bool :=
  match r.active with
  | .approach _ | .take => true
  | .own _ => false

/-- R94. -/
def Zone.active (guards : Vector Bool 8) (z : Zone) : Bool :=
  match z.activation with
  | .always => true
  | .guard g => guards[g]
  | .off => false

/-- A configured, non-optional locator in a given link state. -/
def Locator.required (l : Locator) : Bool := l.configured && !l.optional

/-- R104: a configured, non-optional locator is SEARCHING or MISSING. -/
def LocatorBus.caps (b : LocatorBus) : Bool :=
  b.locators.toList.any fun l => l.required && (l.link == .searching || l.link == .missing)

/-- R107: a configured, non-optional locator is OFFLINE. -/
def LocatorBus.anyOffline (b : LocatorBus) : Bool :=
  b.locators.toList.any fun l => l.required && l.link == .offline

/-- R104: a condition that caps the scale at creep stands. -/
def State.capStands (s : State) : Bool :=
  s.link.mode != .operate || s.crew.warmUp || s.bus.caps

/-- The channels of the Player's slot (R165: the held channels). -/
def State.heldSet (s : State) : List (Fin 10) :=
  match s.player.slot with
  | some i => s.mem.slots[i].set
  | none => []

/-- A test is RUNNING (R124). -/
def State.testRunning (s : State) : Bool := s.stop.test.state == .running

def State.saving (s : State) : Bool := s.store.save.isSome

/-- Record size (R146). -/
def Slot.recordSize (sl : Slot) : Nat := 4 + 4 * sl.set.length

/-- Frames per block F (R146). -/
def Slot.framesPerBlock (sl : Slot) : Nat := 1024 / sl.recordSize

/-- Length of the data stream (R146). -/
def Slot.streamLength (sl : Slot) : Nat := sl.frames * sl.recordSize

/-- The cell address of a data stream offset, through the block chain (R146). -/
def Slot.address (sl : Slot) (offset : Nat) : Nat :=
  let k := offset / sl.recordSize
  sl.chain.getD (k / sl.framesPerBlock) 0 * 1024
    + (k % sl.framesPerBlock) * sl.recordSize + offset % sl.recordSize

/-- A byte of take memory; what no record has written reads as 0 (log entry 8). -/
def readCell : List Host.Cell → Nat → Byte
  | [], _ => 0
  | (x, y) :: rest, a => if x = a then y else readCell rest a

/-- Bytes of a slot's data stream (R146). -/
def TakeMemory.stream (m : TakeMemory) (sl : Slot) (offset count : Nat) : List Byte :=
  (List.range count).map fun j => readCell m.cells (sl.address (offset + j))

/-- The position that record k of a slot holds for its j-th channel (12.2). -/
def TakeMemory.position (m : TakeMemory) (sl : Slot) (k j : Nat) : Int :=
  toSigned 4 (leNat (m.stream sl (k * sl.recordSize + 4 + 4 * j) 4))

end Sys2Proof.Machine
end

