-- ==== Sys2Proof/Machine/Reports.lean ====
section
/-! DEFINITION. The content of every report kind, read off the state (R13, R40, R91, R111, R127, R163, R182,
R188, R194), and the records that replies share with reports. Widths are R198's; log entry 7 says what
R198 does not fix. -/

namespace Sys2Proof.Machine

def FaultSet.field (f : FaultSet) : Field :=
  flags [f.encoderLost, f.driveFault, f.driveNotReady, f.following]

def Causes.field (c : Causes) : Field :=
  flags [c.estopA, c.estopB, c.discrepancy, c.armFault, c.latch, c.enableReleased]

def FrameMarks.field (m : FrameMarks) : Field := flags [m.slip, m.holdover, m.unlocked]

/-- A tag id or a zone index, with which of the two it is. -/
def itemFields : Option LatchItem → List Field
  | some (.tag id) => [u8 0, u16 id]
  | some (.zone i) => [u8 1, u16 i]
  | none => [.absent 1, .absent 2]

def natOpt (w : Nat) (v : Option Nat) : Field := optField w (v.map Int.ofNat)

def slotNumber : Option (Fin 32) → Field
  | some i => u8 (i.val + 1)
  | none => .absent 1

def Latch.fields (l : Latch) : List Field :=
  [flag l.isSet, flags [l.governor, l.crewOverflow, l.locatorOffline], natOpt 4 l.setFrame,
    natOpt 1 (l.firstCause.map (·.ctorIdx))] ++ itemFields l.firstItem

def TestRecord.fields (t : TestRecord) : List Field :=
  [u8 t.state.ctorIdx, i32 t.x, i32 t.y, u16 t.duration, u16 t.remaining, u32 t.startFrame,
    natOpt 4 t.latchFrame, natOpt 1 (t.latchCause.map (·.ctorIdx))] ++ itemFields t.latchItem
    ++ [natOpt 4 t.endFrame]

def PassFlags.field (f : PassFlags) : Field :=
  flags [f.governed, f.paused, f.slip, f.holdover, f.unlocked, f.overspeed, f.channelFault]

/-- The fields of R177 in its order. -/
def PassRecord.fields (r : PassRecord) : List Field :=
  [u8 (r.slot.val + 1), u32 r.rollFrame, u32 r.endFrame, u32 r.ticks, .num 6 r.lag, .num 5 r.lagFrames,
    u16 r.paceFall, u16 r.paceRise, r.flags.field, natOpt 1 (r.result.map (·.ctorIdx))]

/-- The bytes that a pass record takes in a message. -/
def passRecordSize : Nat := 30

def TakeFlags.field (f : TakeFlags) : Field := flags [f.truncated, f.estopEnd, f.slip, f.holdover]

/-- A lag in hundredths of a frame: × 100 ÷ Q, rounded to nearest, halves up, for Q = TPF × 1024 (R177). -/
def lagInFrames (lag tpf : Nat) : Nat := (2 * (lag * 100) + tpf * 1024) / (2 * (tpf * 1024))

/-- A mask of channels (R198). -/
def channelMask (set : List (Fin 10)) : Nat := (set.map fun i => 2 ^ i.val).sum

/-- The lens values and the follow record as the FRAME report carries them (R144). DESIGN CHOICE (log entry 28):
FOLLOW_LOST and BEYOND_TABLE go out as two yes/no bytes. DESIGN CHOICE (log entry 7): a lens value takes 32 bits signed
on every lens channel. -/
def LensUnit.frameFields (l : LensUnit) : List Field :=
  l.values.toList.map (optField 4) ++
  [u8 l.follow.state.ctorIdx, i32 l.follow.demand, flag l.follow.followLost, flag l.follow.beyondTable]

/-- How many crew entries are in a state. -/
def CrewTracker.count (c : CrewTracker) (st : CrewState) : Nat :=
  (c.table.filter fun e => e.state == st).length

/-- FRAME (R188). -/
def frameReport (s : State) : List Field :=
  [u32 s.tb.frameNumber, u8 s.tb.pubLock.ctorIdx, u16 s.tb.slipCount,
    u8 s.link.mode.ctorIdx, u8 s.stop.state.ctorIdx, s.stop.causes.field,
    u16 s.gov.scale, flag s.gov.latch.isSet]
  ++ s.chans.toList.flatMap (fun c => [u8 c.state.ctorIdx, i32 c.demand])
  ++ [i32 s.pose.head.x, i32 s.pose.head.y, i32 s.pose.head.z, i32 s.pose.speed]
  ++ s.lens.frameFields
  ++ [u8 s.recorder.state.ctorIdx, slotNumber s.recorder.slot, u8 s.player.state.ctorIdx,
    slotNumber s.player.slot, u32 s.player.clock, u16 s.player.rate]

/-- SAFETY: the Governor's fields (R111), then the Stop Supervisor's (R127). DESIGN CHOICE (log entry 28): the guard
states go out as one flag byte, the active zones as one flag set of 16 bits, bit n for zone n, and the arm-fault set
as one flag byte. -/
def safetyReport (s : State) : List Field :=
  s.gov.latch.fields ++
  [u16 s.gov.scale, flag s.gov.releaseReady,
    flags [s.link.mode != .operate, s.crew.warmUp, s.bus.caps, s.gov.latch.isSet],
    flags s.gov.guardState.toList,
    u16 (flagBits (s.gov.zones.toList.map (Zone.active s.gov.guardState))), u32 s.tb.frameNumber,
    u8 s.stop.state.ctorIdx, u8 s.stop.prev.ctorIdx, s.stop.causes.field,
    flag s.stop.a.isOpen, flag s.stop.b.isOpen, flag s.stop.bothOpen, flag s.stop.discTimer.isSome,
    flag s.stop.enableHeld, flags s.stop.armFaults.toList]
  ++ s.stop.test.fields

/-- TAKE (R163). DESIGN CHOICE (log entry 28): the ending, whether the take was kept, and the channel of CUE_FAILED
stand in the reports of the events that have them, and have no place in the others. -/
def takeReport (s : State) (event : TakeEvent) (slot : Option (Fin 32)) (ending : Option Ending)
    (kept : Bool) (channel : Option (Fin 10)) : List Field :=
  [u8 event.ctorIdx, slotNumber slot]
  ++ (match slot with
    | some i =>
      let sl := s.mem.slots[i]
      [u8 sl.state.ctorIdx, u16 sl.frames, flags [sl.play, sl.erase], sl.flags.field, u32 sl.created]
    | none => [.absent 1, .absent 2, .absent 1, .absent 1, .absent 4])
  ++ (match ending with
    | some e => [u8 e.ctorIdx, flag kept]
    | none => [])
  ++ (match channel with
    | some c => [u8 c.val]
    | none => [])
  ++ [u8 s.recorder.state.ctorIdx, slotNumber s.recorder.slot, u8 s.player.state.ctorIdx,
    slotNumber s.player.slot, u16 s.mem.free.length, u32 s.tb.frameNumber]

/-- PASS (R182): the current record with the lag as it stands, or at the close the closed one. DESIGN CHOICE (log
entry 7): what the current record gets at its close alone goes out as the zeros it opened with. -/
def passReport (s : State) (closed : Option PassRecord) : List Field :=
  let record := closed.orElse fun _ => s.player.pass.orElse fun _ => s.mem.passes.getLast?
  let lag := match record with
    | some { result := some _, lagFrames := n, .. } => some n
    | some r => some (lagInFrames s.player.lag (s.mem.slots[r.slot]).tpf)
    | none => none
  (match record with
    | some r => r.fields
    | none => [])
  ++ [u8 s.player.state.ctorIdx, slotNumber s.player.slot, u32 s.player.clock, u16 s.player.rate,
    natOpt 5 lag, u32 s.tb.frameNumber]

/-- CREW (R91). The last status goes out as in R201: 0 for OK, 1 for DEGRADED. -/
def crewReport (s : State) : List Field :=
  [u32 s.crew.roundFrame, u16 s.crew.membership, u8 (s.crew.count .tracked), u8 (s.crew.count .stale),
    u8 (s.crew.count .lost), flag (s.crew.table.any fun e => e.role == .test), flag s.crew.overflow,
    flag s.crew.warmUp]
  ++ s.bus.locators.toList.flatMap fun l => [u8 l.link.ctorIdx, flag l.degraded]

/-- TIMEBASE (R13). -/
def timebaseReport (s : State) (old : LockState) (slip : Bool) : List Field :=
  [u8 s.tb.lock.ctorIdx, u8 old.ctorIdx, u32 s.tb.frameNumber, u16 s.tb.slipCount, flag slip]

/-- FAULT (R40). -/
def faultReport (s : State) (ch : Fin 10) : List Field :=
  s.chans.toList.flatMap (fun c => [u8 c.state.ctorIdx, c.faults.field, flag c.warn])
  ++ [u8 ch.val, u32 s.tb.frameNumber]

/-- SAVE (R194): the result, and the frame number at acceptance. -/
def saveReport (saved : Bool) (frame : Nat) : List Field := [u8 (if saved then 0 else 1), u32 frame]

def Raise.kind : Raise → ReportKind
  | .frame => .frame
  | .safety => .safety
  | .take .. => .take
  | .pass _ => .pass
  | .crew => .crew
  | .timebase .. => .timebase
  | .fault _ => .fault
  | .save .. => .save

/-- The content a raised report takes from the state its event leaves. -/
def Raise.fields (s : State) : Raise → List Field
  | .frame => frameReport s
  | .safety => safetyReport s
  | .take event slot ending kept channel => takeReport s event slot ending kept channel
  | .pass closed => passReport s closed
  | .crew => crewReport s
  | .timebase old slip => timebaseReport s old slip
  | .fault ch => faultReport s ch
  | .save saved n => saveReport saved n

end Sys2Proof.Machine
end

