-- ==== Sys2Proof/Machine/Ops.lean ====
section
/-! DEFINITION. The operations that blocks share: the output queue and replies, cells of take memory,
channel state changes ordered from outside a step, sources, the take blocks, the Player's letting go, the
stop state and the protective latch. -/

namespace Sys2Proof.Machine

/-! ### Reports, replies and the output queue (R185 to R187) -/

/-- Raises a report in the event in progress. -/
def State.raise (r : Raise) (s : State) : State :=
  { s with link := { s.link with raised := s.link.raised ++ [r] } }

def State.raiseIf (b : Bool) (r : Raise) (s : State) : State := if b then s.raise r else s

def Message.isReply : Message → Bool
  | .reply .. => true
  | .report .. => false

def Message.isReportOf (k : ReportKind) : Message → Bool
  | .reply .. => false
  | .report k' _ => k' == k

def ReportKind.index : ReportKind → Fin 8
  | .frame => 0
  | .safety => 1
  | .take => 2
  | .pass => 3
  | .crew => 4
  | .timebase => 5
  | .fault => 6
  | .save => 7

/-- Reply places in use: pending replies, and one in transmission (R187). -/
def Link.replyPlacesUsed (l : Link) : Nat :=
  (l.out.filter Message.isReply).length + (if l.sending.any Message.isReply then 1 else 0)

def Link.replyPlaceFree (l : Link) : Bool := l.replyPlacesUsed < 8

/-- R187: a report of an enabled kind takes its kind's place at the tail, replaces a pending one of its
kind in place, or waits for the place the message in transmission still holds. -/
def Link.queueReport (k : ReportKind) (fields : List Field) (l : Link) : Link :=
  if !l.mask[k.index] then l
  else if l.out.any (Message.isReportOf k) then
    { l with out := l.out.map fun m => if m.isReportOf k then .report k fields else m }
  else if l.sending.any (Message.isReportOf k) then
    { l with waiting := l.waiting.filter (fun m => !m.isReportOf k) ++ [.report k fields] }
  else { l with out := l.out ++ [.report k fields] }

/-- The reports raised in the event are queued, with the content of the state it leaves. DESIGN CHOICE (log entry 13):
the report mask of that state decides which, so at a load's end the image's. -/
def State.flushReports (s : State) : State :=
  let link := { s.link with raised := [] }
  { s with link := s.link.raised.foldl (fun l r => l.queueReport r.kind (r.fields s)) link }

/-- An idle line begins the oldest message at once (R187, log entry 9). -/
def Link.startSending (l : Link) : Link :=
  match l.sending, l.out with
  | none, m :: rest => { l with sending := some m, out := rest }
  | _, _ => l

/-- The end of an event: its reports are queued and an idle line begins the next message. -/
def State.settle (s : State) : State :=
  let s := s.flushReports
  { s with link := s.link.startSending }

/-- A reply joins the output queue at the tail (R187). -/
def State.queueReply (kind tag : Byte) (result : Result) (fields : List Field) (s : State) : State :=
  { s with link := { s.link with out := s.link.out ++ [.reply kind tag result fields] } }

/-- What serving a request gives: the state it leaves and its reply. -/
structure Served where
  state : State
  result : Result
  fields : List Field

/-- R186: a refused request changes no state. -/
def State.refuse (s : State) (r : Result) (fields : List Field := []) : Served := ⟨s, r, fields⟩

def State.accepted (s : State) (fields : List Field := []) : Served := ⟨s, .ok, fields⟩

/-- The kinds STARTING serves: GET STATUS and IDENTIFY (R186). -/
def servedInStarting (kind : Byte) : Bool := kind == 0x58#8 || kind == 0x5E#8

/-- The Link's own check before the owning block's (R186): STARTING answers BUSY. -/
def State.serveBy (kind : Byte) (handler : State → Served) (s : State) : Served :=
  if s.link.mode == .starting && !servedInStarting kind then s.refuse .busy else handler s

/-- The acceptance of a request (R185): served whole, its reply queued, the event's reports after it.
While no reply place is free no request is served. -/
def State.accept (kind tag : Byte) (handler : State → Served) (s : State) : State :=
  if s.link.replyPlaceFree then
    let r := s.serveBy kind handler
    (r.state.queueReply kind tag r.result r.fields).settle
  else s

/-- The operand of a request: `none` is a payload whose length fits none of the kind's forms (R199). -/
def withPayload {α : Type} (args : Option α) (s : State) (h : α → Served) : Served :=
  match args with
  | none => s.refuse .badFormat
  | some a => h a

/-! ### Cells of take memory -/

/-- Canonical form: addresses strictly rising, and no cell holding the 0 that an unlisted address reads
as. -/
def cellsWf : List Host.Cell → Bool
  | [] => true
  | [(_, b)] => b != 0
  | (a, b) :: (a', b') :: rest => b != 0 && a < a' && cellsWf ((a', b') :: rest)

/-- Writes one byte, keeping the canonical form. -/
def writeCell : List Host.Cell → Nat → Byte → List Host.Cell
  | [], a, b => if b = 0 then [] else [(a, b)]
  | (x, y) :: rest, a, b =>
    if a < x then (if b = 0 then (x, y) :: rest else (a, b) :: (x, y) :: rest)
    else if a = x then (if b = 0 then rest else (a, b) :: rest)
    else (x, y) :: writeCell rest a b

/-- Stores bytes of a slot's data stream from an offset on, each in its place (R146). -/
def TakeMemory.writeStream (m : TakeMemory) (sl : Slot) : Nat → List Byte → TakeMemory
  | _, [] => m
  | offset, b :: bs =>
    TakeMemory.writeStream { m with cells := writeCell m.cells (sl.address offset) b } sl (offset + 1) bs

/-! ### Channel state changes from outside a step (R25: the lines take the new levels at once) -/

def State.modChan (i : Fin 10) (f : Channel → Channel) (s : State) : State :=
  { s with chans := s.chans.set i (f s.chans[i]) }

def State.mapChans (f : Fin 10 → Channel → Channel) (s : State) : State :=
  { s with chans := Vector.ofFn fun i => f i s.chans[i] }

/-- Entry to RELEASING (R29, R27). -/
def Channel.toReleasing (rate : Nat) (c : Channel) : Channel :=
  { c with state := .releasing, p := 256 * c.encoder, v := 0, atTarget := false
           brakeTimer := msToTicks c.cfg.releaseTime rate }

/-- Entry to STOPPING (R33): from PARKING in ENGAGE with the brake timer as it stood, with v already 0 in
ENGAGE, else in RAMP. DESIGN CHOICE (log entry 7): in RAMP, where none runs, the brake timer is held at 0. -/
def Channel.toStopping (rate : Nat) (c : Channel) : Channel :=
  if c.state = .parking then { c with state := .stopping, phase := .engage, atTarget := false }
  else if c.v = 0 then
    { c with state := .stopping, phase := .engage, atTarget := false
             brakeTimer := msToTicks c.cfg.engageTime rate }
  else { c with state := .stopping, phase := .ramp, atTarget := false, brakeTimer := 0 }

/-- To DISABLED. DESIGN CHOICE (log entry 7): a brake timer that this abandons (R27, R32) is held at 0 from then on, and
the stop phase of a stop that this ends stands until the next stop. -/
def Channel.toDisabled (c : Channel) : Channel :=
  { c with state := .disabled, brakeTimer := 0, atTarget := false }

/-- R34, R35: what DISABLE CHANNELS and EMERGENCY do to a channel. -/
def Channel.bringDown (rate : Nat) (c : Channel) : Channel :=
  match c.state with
  | .releasing | .active | .parking => c.toStopping rate
  | .parked => c.toDisabled
  | .disabled | .stopping | .faulted => c

/-- R31, R32: a PARKING or PARKED channel leaves for RELEASING, or for DISABLED outside its limits. -/
def Channel.unpark (rate : Nat) (c : Channel) : Channel :=
  if c.withinLimits then c.toReleasing rate else c.toDisabled

/-! ### Sources (R42, R46, R53) -/

def Route.disarmed (r : Route) (b : Bool) : Route := if b then { r with armed := false } else r

/-- Clears the armed flag of some channels. -/
def State.disarm (which : Fin 10 → Bool) (s : State) : State :=
  let routes := Vector.ofFn fun i => s.router.routes[i].disarmed (which i)
  { s with router := { s.router with routes := routes } }

/-- The follow record starts (R138). -/
def State.followStart (s : State) : State :=
  { s with lens := { s.lens with follow :=
      { state := .holding, demand := s.chans[focus].demand, distance := none
        followLost := false, beyondTable := false } } }

/-- FOCUS stops following (R138). -/
def State.followStop (s : State) : State :=
  { s with lens := { s.lens with follow :=
      { s.lens.follow with state := .inactive, followLost := false, beyondTable := false } } }

/-- A channel's active source is set: the armed flag and the at-target mark are cleared, and FOCUS starts
or stops following (R44, R46, R138). -/
def State.setActive (i : Fin 10) (a : ActiveSource) (s : State) : State :=
  let s := { s with router := { s.router with
      routes := s.router.routes.set i { s.router.routes[i] with active := a, armed := false } } }
  let s := s.modChan i fun c => { c with atTarget := false }
  if i = focus then (if a = .own .follow then s.followStart else s.followStop) else s

/-! ### Take blocks (R148) -/

def State.modSlot (i : Fin 32) (f : Slot → Slot) (s : State) : State :=
  { s with mem := { s.mem with slots := s.mem.slots.set i (f s.mem.slots[i]) } }

/-- The block at the head of the free list goes to the end of a slot's chain. -/
def TakeMemory.takeBlock (i : Fin 32) (m : TakeMemory) : TakeMemory :=
  match m.free with
  | [] => m
  | b :: rest =>
    { m with free := rest
             slots := m.slots.set i { m.slots[i] with chain := m.slots[i].chain ++ [b] } }

/-- A slot becomes EMPTY and its chain joins the tail of the free list in chain order. -/
def TakeMemory.giveBack (i : Fin 32) (m : TakeMemory) : TakeMemory :=
  { m with free := m.free ++ m.slots[i].chain, slots := m.slots.set i .empty }

/-! ### The Recorder's endings (R151, R154) -/

def TakeFlags.ended (e : Ending) (f : TakeFlags) : TakeFlags :=
  match e with
  | .noBlock | .restart => { f with truncated := true }
  | .emergency => { f with estopEnd := true }
  | .stopRecord | .frameLimit => f

/-- R154: the Recorder lets go of its slot; a take of 2 or more frames is kept READY, a shorter one is
discarded. DESIGN CHOICE (log entry 25): the fill goes to 0, and the start kind stands. -/
def State.endRecording (e : Ending) (s : State) : State :=
  match s.recorder.slot with
  | none => s
  | some i =>
    let s := { s with recorder := { s.recorder with state := .idle, slot := none, fill := 0 } }
    if 2 ≤ s.mem.slots[i].frames then
      (s.modSlot i fun sl =>
        { sl with state := .ready, play := true, erase := true, flags := sl.flags.ended e }).raise
        (.take .recordEnded (some i) (some e) true none)
    else
      { s with mem := s.mem.giveBack i }.raise (.take .recordEnded (some i) (some e) false none)

/-- R151: an ARMED Recorder returns to IDLE, its slot EMPTY and its block free again. DESIGN CHOICE (log entry 25):
the fill goes to 0, and the start kind stands. -/
def State.cancelRecording (s : State) : State :=
  match s.recorder.slot with
  | none => s
  | some i =>
    { s with recorder := { s.recorder with state := .idle, slot := none, fill := 0 }
             mem := s.mem.giveBack i }.raise (.take .recordCancelled (some i) none false none)

/-- EMERGENCY at the Recorder (R151, R154). -/
def State.recorderEmergency (s : State) : State :=
  match s.recorder.state with
  | .idle => s
  | .armed => s.cancelRecording
  | .recording => s.endRecording .emergency

/-! ### The Player's closing of a pass and letting go (R46, R161, R177) -/

/-- A closed record joins the pass history, the oldest of 16 leaving, and becomes its slot's last pass
(R161). -/
def TakeMemory.recordPass (r : PassRecord) (m : TakeMemory) : TakeMemory :=
  let sl := m.slots[r.slot]
  { m with passes := (if m.passes.length < 16 then m.passes else m.passes.drop 1) ++ [r]
           passCount := (m.passCount + 1) % 65536
           slots := if sl.state = .empty then m.slots else m.slots.set r.slot { sl with lastPass := some r } }

/-- R177: the record of a pass at its close. -/
def Player.closedRecord (p : Player) (r : PassRecord) (tpf frame : Nat) (result : PassResult) : PassRecord :=
  { r with endFrame := frame, ticks := p.ticks, lag := p.lag, lagFrames := lagInFrames p.lag tpf
           result := some result }

/-- The running pass closes with a result (R177, R161, R182). -/
def State.closePass (result : PassResult) (s : State) : State :=
  match s.player.pass with
  | none => s
  | some r =>
    let closed := s.player.closedRecord r (s.mem.slots[r.slot]).tpf s.tb.frameNumber result
    { s with player := { s.player with pass := none }, mem := s.mem.recordPass closed }.raise
      (.pass (some closed))

/-- Every channel of a set takes its configured source, unarmed (R46). -/
def State.giveBackChannels (set : List (Fin 10)) (s : State) : State :=
  set.foldl (fun s i => s.setActive i (.own s.router.routes[i].configured)) s

/-- The Player returns to IDLE and lets go of every held channel; a CUED Player that does so takes an
ARMED AT_ROLL Recorder back to IDLE (R46, R151, R172). DESIGN CHOICE (log entry 25): the cue frame flag, which R169
gives no value outside CUEING, is cleared here, and stands through CUED, PLAYING and HELD. -/
def State.letGo (s : State) : State :=
  let wasCued := s.player.state == .cued
  let set := s.heldSet
  let s := { s with player := { s.player with state := .idle, slot := none, rollPending := false
                                              cueFlag := false } }
  let s := s.giveBackChannels set
  if wasCued && s.recorder.state == .armed && s.recorder.startKind == .atRoll then s.cancelRecording
  else s

/-- EMERGENCY at the Player (R180). -/
def State.playerEmergency (s : State) : State :=
  if s.player.state = .idle then s
  else
    let slot := s.player.slot
    (if s.player.state = .playing then s.closePass .stopped else s).letGo.raise
      (.take .playerReleased slot none false none)

/-- R176: a flag is set in the running pass; one newly set queues a PASS report. -/
def State.flagPass (f : PassFlags → PassFlags) (s : State) : State :=
  match s.player.state, s.player.pass with
  | .playing, some r =>
    if f r.flags = r.flags then s
    else { s with player := { s.player with pass := some { r with flags := f r.flags } } }.raise (.pass none)
  | _, _ => s

/-! ### The stop state (R114, R115) -/

/-- R114: the stop state that a cause set gives. -/
def Causes.stopState (c : Causes) : StopState :=
  if c.estopA || c.estopB || c.discrepancy || c.armFault then .emergency
  else if c.latch then .protective
  else if c.enableReleased then .hold
  else .run

def StopState.isRun : StopState → Bool
  | .run => true
  | .hold | .protective | .emergency => false

/-- R53: the channels a stop state's entry disarms. -/
def disarmedBy (st : StopState) (i : Fin 10) : Bool :=
  match st with
  | .run => false
  | .hold | .protective => !isLens i
  | .emergency => true

/-- R115 and the table of 7.2: every block acts on a change of the stop state in the same event; while CUEING the
cue frame flag goes with RUN (R169). DESIGN CHOICE (log entry 13): of the TAKE reports of one EMERGENCY the Recorder's
is the newer, but where the Player's leaving of CUED has cancelled an AT_ROLL Recorder. -/
def State.enterStop (st : StopState) (s : State) : State :=
  let s := { s with
    stop := { s.stop with state := st, prev := s.stop.state, mark := s.stop.mark || !st.isRun }
    player := { s.player with cueFlag := s.player.cueFlag && (st.isRun || s.player.state != PlayerState.cueing) } }
  let s := s.disarm (disarmedBy st)
  if st = .emergency then
    (s.mapChans fun _ c => c.bringDown s.tb.tickRate).playerEmergency.recorderEmergency
  else s

/-- The cause set becomes `c`; the stop state is recomputed in the same event (R114, R115). -/
def State.applyCauses (c : Causes) (s : State) : State :=
  if c = s.stop.causes then s
  else
    let s := { s with stop := { s.stop with causes := c } }.raise .safety
    if c.stopState = s.stop.state then s else s.enterStop c.stopState

/-- An arm channel's entry to FAULTED (R120). -/
def State.armFault (i : Fin 4) (s : State) : State :=
  let s := { s with stop := { s.stop with armFaults := s.stop.armFaults.set i true } }
  s.applyCauses { s.stop.causes with armFault := true }

/-- The arm channel that a channel index names, if any. -/
def armIndex (i : Fin 10) : Option (Fin 4) :=
  if h : i.val < 4 then some ⟨i.val, h⟩ else none

/-- R120: the index leaves the arm-fault set. -/
def State.armFaultGone (i : Fin 10) (s : State) : State :=
  match armIndex i with
  | some k => { s with stop := { s.stop with armFaults := s.stop.armFaults.set k false } }
  | none => s

/-! ### The governor scale between ticks and the protective latch (R105, R107, R109) -/

/-- Publishes a governor scale; the frame's minimum goes with it (R106). -/
def State.publishScale (v : Nat) (s : State) : State :=
  { s with gov := { s.gov with scale := v
                               figures := { s.gov.figures with minScale := min s.gov.figures.minScale v } } }

/-- R105: where a cap stands the published scale is brought to creep in the same event. -/
def State.enforceCaps (s : State) : State :=
  if s.capStands && s.gov.params.creep < s.gov.scale then s.publishScale s.gov.params.creep else s

def Latch.has (l : Latch) : LatchCause → Bool
  | .governor => l.governor
  | .crewOverflow => l.crewOverflow
  | .locatorOffline => l.locatorOffline

def Latch.put (l : Latch) (b : Bool) : LatchCause → Latch
  | .governor => { l with governor := b }
  | .crewOverflow => { l with crewOverflow := b }
  | .locatorOffline => { l with locatorOffline := b }

/-- R125: the first latch set of a running test is recorded. -/
def TestRecord.seeLatch (l : Latch) (t : TestRecord) : TestRecord :=
  if t.state = .running ∧ t.latchFrame = none then
    { t with latchFrame := l.setFrame, latchCause := l.firstCause, latchItem := l.firstItem }
  else t

/-- R107: a cause joins; one that joins while the latch is clear sets it, drops the scale to 0 and takes
LATCH to the Stop Supervisor (R122). -/
def State.joinLatch (cause : LatchCause) (item : Option LatchItem) (s : State) : State :=
  let l := s.gov.latch
  if l.has cause then s
  else if l.isSet then
    { s with gov := { s.gov with latch :=
        { l.put true cause with releaseHeld := l.releaseHeld && cause == LatchCause.governor } } }.raise .safety
  else
    let l' := { l.put true cause with isSet := true, setFrame := some s.tb.frameNumber
                                      firstCause := some cause, firstItem := item, releaseHeld := false }
    let s := ({ s with gov := { s.gov with latch := l' }
                       stop := { s.stop with test := s.stop.test.seeLatch l' } }.publishScale 0).raise .safety
    s.applyCauses { s.stop.causes with latch := true }

/-- R107: a standing cause leaves the cause set; the latch stays as it is. -/
def State.leaveLatch (cause : LatchCause) (s : State) : State :=
  if s.gov.latch.has cause then
    { s with gov := { s.gov with latch := s.gov.latch.put false cause } }.raise .safety
  else s

/-- R109: the release of the latch. -/
def State.releaseLatch (s : State) : State :=
  let s := { s with gov := { s.gov with latch :=
      { s.gov.latch with isSet := false, governor := false, crewOverflow := false
                         locatorOffline := false } } }.raise .safety
  s.applyCauses { s.stop.causes with latch := false }

/-- R107: LOCATOR_OFFLINE follows whether a required locator is OFFLINE. -/
def State.syncOffline (s : State) : State :=
  if s.bus.anyOffline then s.joinLatch .locatorOffline none else s.leaveLatch .locatorOffline

/-! ### Waiting events -/

/-- A threshold's event is the step at which the threshold is reached: that step where the condition
stands, and nothing where it does not (log entry 2). -/
def State.whenDue (due : Bool) (parent : State → State) (s : State) : State :=
  if due then parent s else s

end Sys2Proof.Machine
end

