-- ==== Sys2Proof/Machine/TimeBase.lean ====
section
/-! DEFINITION. The Time Base (chapter 1): ticks and boundaries, pulses and verdicts, lock states, lock-in
placement, SET TIMEBASE and GET TIMEBASE. -/

namespace Sys2Proof.Machine

/-- A crystal period in the units of the model's instants. -/
def crystalPeriod : Nat := 5

/-- The instant of tick `i` of the frame in progress: even shares of the frame length (R2). -/
def TimeBase.tickInstant (tb : TimeBase) (i : Nat) : Nat :=
  tb.frameStart + i * tb.frameLen / tb.frameTpf

/-- The next tick is a frame boundary: the first after a reset (R16), or the one that ends the frame. -/
def TimeBase.boundaryDue (tb : TimeBase) : Bool := !tb.started || tb.frameTicks ≤ tb.tickIndex + 1

/-- The frame length that a lock state calls for (table of R2), before a LOCKED frame's offset. -/
def TimeBase.lengthFor (tb : TimeBase) : Nat :=
  match tb.lock with
  | .locked | .holdover => tb.measured
  | .freeRun | .acquiring | .noReference => nominalPeriod tb.rateCode

/-- The Time Base publishes its lock state at a tick, and the frame gathers the marks it calls for (R4). DESIGN
CHOICE (log entry 24): UNLOCKED's "the source is REFERENCE" is judged at each tick, with the source that stands there,
so a frame whose earlier ticks gathered UNLOCKED keeps it when a SET TIMEBASE to INTERNAL cuts the frame. -/
def TimeBase.publish (tb : TimeBase) : TimeBase :=
  let unlocked := tb.source == .reference && (tb.lock == .acquiring || tb.lock == .noReference)
  { tb with
    pubLock := tb.lock
    gathered := { tb.gathered with holdover := tb.gathered.holdover || tb.lock == .holdover
                                   unlocked := tb.gathered.unlocked || unlocked } }

/-- A tick that is no boundary (R1). -/
def TimeBase.tick (tb : TimeBase) : TimeBase :=
  { tb with tickIndex := tb.tickIndex + 1, lastTick := tb.tickInstant (tb.tickIndex + 1) }.publish

/-- R11: in HOLDOVER the counter rises at a boundary, and reaching the limit moves to NO_REFERENCE. -/
def TimeBase.countHoldover (tb : TimeBase) : TimeBase :=
  if tb.lock = .holdover then
    let n := tb.holdoverCount + 1
    { tb with holdoverCount := n, lock := if tb.holdoverLimit ≤ n then .noReference else .holdover }
  else tb

/-- R16: the boundary that a load's end makes takes the lock state to ACQUIRING, where the image has the source
REFERENCE; as on every entry to ACQUIRING there is no expectation (R6). -/
def TimeBase.acquire (tb : TimeBase) : TimeBase :=
  if tb.acquireDue then
    { tb with lock := .acquiring, expectation := none, entryWait := true, acquireDue := false }
  else tb

/-- A new frame begins at the end of the old one (R2), and the old one's marks are published (R4). -/
def TimeBase.beginFrame (tb : TimeBase) : TimeBase :=
  { tb with
    tickIndex := 0
    marks := tb.gathered
    gathered := ⟨false, false, false⟩
    frameStart := tb.frameEnd
    frameLen := tb.lengthFor
    frameEnd := tb.frameEnd + tb.lengthFor
    frameTpf := tb.tpf
    frameTicks := tb.tpf
    frameStep := 1
    cut := false
    lastTick := tb.frameEnd
    windowOpen := tb.lock == .locked }

/-- A frame boundary (R1, R4, R11, R16); the first after a reset has frame number 0 (R16). -/
def TimeBase.boundary (tb : TimeBase) : TimeBase :=
  if tb.started then
    { tb.acquire.countHoldover with
      frameNumber := (tb.frameNumber + tb.frameStep) % 4294967296 }.beginFrame.publish
  else { tb.acquire with started := true }.beginFrame.publish

/-! ### Verdicts (R5 to R8, R12) -/

def pushVerdict (h : Vector Bool 4) (good : Bool) : Vector Bool 4 := #v[h[1], h[2], h[3], good]

def allGood (h : Vector Bool 4) : Bool := h[0] && h[1] && h[2] && h[3]

def badCount (h : Vector Bool 4) : Nat := (h.toList.filter (!·)).length

/-- Within ±64/256 of the tick period in force (R5). -/
def TimeBase.inWindow (tb : TimeBase) (instant expected : Nat) : Bool :=
  4 * tb.frameTpf * ((instant : Int) - expected).natAbs ≤ tb.frameLen

/-- The lock-in placement of R12, on the verdict of the pulse at `pulse`. DESIGN CHOICE (log entry 24): where
an accepted SET TIMEBASE has cut the frame (R14) and the cut boundary has not come, the placement is made all
the same; it withholds the cut boundary. -/
def TimeBase.lockIn (pulse : Nat) (tb : TimeBase) : TimeBase :=
  let periods := max 1 (ceilDiv (tb.frameEnd - pulse) tb.measured)
  let placed := pulse + periods * tb.measured
  let slip := tb.phaseEstablished && tb.measured < 2 * (placed - tb.frameEnd)
  let ticks := (2 * (placed - tb.frameStart) * tb.frameTpf + tb.frameLen) / (2 * tb.frameLen)
  { tb with
    lock := .locked
    frameEnd := placed
    frameTicks := ticks
    frameStep := if slip then 2 else 1
    cut := false
    gathered := { tb.gathered with slip := tb.gathered.slip || slip }
    slipCount := if slip then bump 1023 tb.slipCount else tb.slipCount
    phaseEstablished := true
    expectation := none
    windowOpen := false
    windowPulses := 0
    windowHit := none }

/-- R8: the lock state a verdict moves to. -/
def TimeBase.moveLock (good : Bool) (pulse : Option Nat) (tb : TimeBase) : TimeBase :=
  match tb.lock with
  | .acquiring | .holdover => if allGood tb.history then tb.lockIn (pulse.getD 0) else tb
  | .locked =>
    if !good && 2 ≤ badCount tb.history then
      { tb with lock := .holdover, lockLost := true, holdoverCount := 0, expectation := some tb.frameEnd
                windowOpen := false, windowPulses := 0, windowHit := none }
    else tb
  | .noReference => if good then { tb with lock := .acquiring } else tb
  | .freeRun => tb

/-- R7: a verdict joins the history and, after another good one, renews the measured period. -/
def TimeBase.verdict (good : Bool) (pulse : Option Nat) (tb : TimeBase) : TimeBase :=
  let measured :=
    match good && tb.history[3], tb.lastGoodPulse, pulse with
    | true, some before, some now => now - before
    | _, _, _ => tb.measured
  { tb with history := pushVerdict tb.history good
            measured := measured
            lastGoodPulse := if good then pulse else none }.moveLock good pulse

/-- R6: the next expectation, one frame length of the present lock state after an instant. LOCKED keeps
none. -/
def TimeBase.expectAfter (instant : Nat) (tb : TimeBase) : TimeBase :=
  if tb.lock = .locked then tb else { tb with expectation := some (instant + tb.lengthFor) }

/-- R5: a pulse that arrives while LOCKED is counted, and kept when it lies in the window of the boundary
whose window is open, else of the next boundary. DESIGN CHOICE (log entry 24): the next boundary is the one due when
the pulse arrives; a SET TIMEBASE that cuts the frame after it (R14) does not judge the pulse again. -/
def TimeBase.lockedPulse (instant : Nat) (tb : TimeBase) : TimeBase :=
  let boundary := if tb.windowOpen then tb.frameStart else tb.frameEnd
  let offset := roundBy Config.pulseOffsetRounding
    (((instant : Int) - boundary) * 256 * tb.frameTpf) tb.frameLen
  { tb with windowPulses := min 2 (tb.windowPulses + 1)
            windowHit := if tb.inWindow instant boundary then some ⟨instant, offset, tb.frameLen, tb.frameTpf⟩
                         else tb.windowHit }

/-- R6: a pulse that arrives in a state with pulse expectations. -/
def TimeBase.expectedPulse (instant : Nat) (tb : TimeBase) : TimeBase :=
  let good := match tb.expectation with
    | some due => tb.inWindow instant due
    | none => false
  { tb with entryWait := false }.verdict good (if good then some instant else none)
    |>.expectAfter instant

/-- A reference pulse (R5, R6, R9): while the source is INTERNAL the input is ignored. -/
def TimeBase.pulse (instant : Nat) (tb : TimeBase) : TimeBase :=
  match tb.source, tb.lock with
  | .internal, _ => tb
  | .reference, .locked => tb.lockedPulse instant
  | .reference, .freeRun => tb
  | .reference, .acquiring | .reference, .holdover | .reference, .noReference => tb.expectedPulse instant

/-- The offset of a pulse as a length of time: 1/256 parts of the tick it was formed in (R5). -/
def PulseHit.span (hit : PulseHit) : Int := floorDiv (hit.offset * hit.tickLen) (256 * hit.tickTpf)

/-- R10: the frame that a boundary with a good verdict begins lasts the measured period plus the offset, so
that the next boundary falls one measured period after the pulse. -/
def TimeBase.absorb (hit : PulseHit) (tb : TimeBase) : TimeBase :=
  let len := ((tb.measured : Int) + hit.span).toNat
  if tb.cut || tb.lock != .locked then tb
  else { tb with frameLen := len, frameEnd := tb.frameStart + len }

/-- The close of a boundary's window in LOCKED (R5). -/
def TimeBase.closeBoundaryWindow (tb : TimeBase) : TimeBase :=
  let shut := { tb with windowOpen := false, windowPulses := 0, windowHit := none }
  match decide (tb.windowPulses = 1), tb.windowHit with
  | true, some hit => (shut.verdict true (some hit.instant)).absorb hit
  | _, _ => shut.verdict false none

/-- The close of a window with its verdict (R5, R6); without an open window or an expectation, nothing. -/
def TimeBase.closeWindow (tb : TimeBase) : TimeBase :=
  match tb.source, tb.lock, tb.expectation with
  | .internal, _, _ => tb
  | .reference, .locked, _ => if tb.windowOpen then tb.closeBoundaryWindow else tb
  | .reference, _, some due => (tb.verdict false none).expectAfter due
  | .reference, _, none => tb

/-- R6: no pulse within one nominal frame period of the entry. -/
def TimeBase.noPulse (instant : Nat) (tb : TimeBase) : TimeBase :=
  if tb.source = .reference ∧ tb.entryWait ∧ tb.expectation = none then
    { { tb with entryWait := false }.verdict false none with
      expectation := some (instant + nominalPeriod tb.rateCode) }
  else tb

/-- A Time Base event, with the TIMEBASE report of a change of lock state (R13). -/
def State.lockEvent (f : TimeBase → TimeBase) (s : State) : State :=
  let tb := f s.tb
  { s with tb := tb }.raiseIf (tb.lock != s.tb.lock)
    (.timebase s.tb.lock (tb.lock == LockState.locked && tb.frameStep == 2))

def execReferencePulse (dt : Nat) (s : State) : Host.Outcome State Fault Refusal :=
  .next (s.lockEvent (TimeBase.pulse (s.tb.lastTick + crystalPeriod * dt))).settle

def execPulseWindowClose (s : State) : Host.Outcome State Fault Refusal :=
  .next (s.lockEvent TimeBase.closeWindow).settle

def execNoPulseAfterEntry (dt : Nat) (s : State) : Host.Outcome State Fault Refusal :=
  .next (s.lockEvent (TimeBase.noPulse (s.tb.lastTick + crystalPeriod * dt))).settle

/-! ### SET TIMEBASE and GET TIMEBASE (R14, R15) -/

/-- R14: the tick in progress ends at its scheduled instant and is a frame boundary. -/
def TimeBase.cutFrame (tb : TimeBase) : TimeBase :=
  if tb.started then
    { tb with
      cut := true
      frameEnd := if tb.frameTicks ≤ tb.tickIndex + 1 then tb.frameEnd
                  else tb.tickInstant (tb.tickIndex + 1)
      frameTicks := tb.tickIndex + 1
      frameStep := 1
      gathered := { tb.gathered with slip := false } }
  else tb

/-- R14: the restart of lock for a changed source or frame rate code. -/
def TimeBase.restartLock (tb : TimeBase) : TimeBase :=
  { tb with
    lock := match tb.source with
      | .internal => .freeRun
      | .reference => .acquiring
    history := Vector.replicate 4 false
    measured := nominalPeriod tb.rateCode
    holdoverCount := 0
    phaseEstablished := false
    expectation := none
    entryWait := tb.source == .reference
    acquireDue := false
    lastGoodPulse := none
    windowOpen := false
    windowPulses := 0
    windowHit := none }

/-- R14: the settings are taken at once, and the frame is cut. DESIGN CHOICE (log entry 24): a restart of lock
changes the lock state at the acceptance, and the boundary of the cut frame publishes it. R6 drops the expectation
where SET TIMEBASE takes the source REFERENCE; DESIGN CHOICE (log entry 24): one that keeps REFERENCE and changes
TPF or the holdover limit alone keeps the pending expectation. -/
def TimeBase.configure (source : RefSource) (code tpf limit : Nat) (tb : TimeBase) : TimeBase :=
  let new := { tb.cutFrame with source := source, rateCode := code, tpf := tpf, holdoverLimit := limit }
  if source = tb.source ∧ code = tb.rateCode then new else new.restartLock

/-- R16: the settings of a good image, taken as SET TIMEBASE takes them (R14), but that with the source REFERENCE
the lock state becomes ACQUIRING at the boundary the load makes: until then it stays FREE_RUN. -/
def TimeBase.load (source : RefSource) (code tpf limit : Nat) (tb : TimeBase) : TimeBase :=
  let new := tb.configure source code tpf limit
  match source with
  | .internal => new
  | .reference => { new with lock := .freeRun, entryWait := false, acquireDue := true }

def refSourceOf : Nat → Option RefSource
  | 0 => some .internal
  | 1 => some .reference
  | _ => none

/-- R14's checks of the values, and the settings they make. -/
def checkTimebase (a : TimebaseArgs) : Option RefSource :=
  if a.rateCode ≤ 7 ∧ tickRateOk a.rateCode a.tpf ∧ 10 ≤ a.holdoverLimit ∧ a.holdoverLimit ≤ 250 then
    refSourceOf a.source
  else none

def State.engineIdle (s : State) : Bool := s.player.state == .idle && s.recorder.state == .idle

/-- SET TIMEBASE (R14). -/
def serveSetTimebase (args : Option TimebaseArgs) (s : State) : Served :=
  withPayload args s fun a =>
    if !s.engineIdle then s.refuse .busy
    else if s.saving then s.refuse .busy
    else match checkTimebase a with
      | none => s.refuse .outOfRange
      | some source =>
        (s.lockEvent (TimeBase.configure source a.rateCode a.tpf a.holdoverLimit)).accepted

def execSetTimebase (tag : Byte) (args : Option TimebaseArgs) (s : State) :
    Host.Outcome State Fault Refusal :=
  .next (s.accept 0x01#8 tag (serveSetTimebase args))

/-- The measured period as a difference from nominal, in 1/256 tick (R7). DESIGN CHOICE (log entry 4): the tick is the
nominal tick of the settings, whatever the tick period in force. -/
def TimeBase.periodDifference (tb : TimeBase) : Int :=
  roundBy Config.periodDifferenceRounding
    (((tb.measured : Int) - nominalPeriod tb.rateCode) * 256 * tb.tpf) (nominalPeriod tb.rateCode)

/-- The fields of R15. The verdict history goes out as one flag byte, oldest verdict in bit 0, in which a set bit is
a good verdict (DESIGN CHOICE, log entry 28). -/
def TimeBase.fields (tb : TimeBase) : List Field :=
  [u8 tb.source.ctorIdx, u8 tb.rateCode, u8 tb.tpf, u16 tb.holdoverLimit, u16 tb.tickRate,
    u8 tb.pubLock.ctorIdx, u32 tb.frameNumber, u8 tb.tickIndex, flags tb.history.toList,
    i32 tb.periodDifference, u16 tb.holdoverCount, flag tb.phaseEstablished, flag tb.lockLost,
    u16 tb.slipCount]

/-- GET TIMEBASE (R15). -/
def serveGetTimebase (args : Option Unit) (s : State) : Served :=
  withPayload args s fun _ => s.accepted s.tb.fields

def execGetTimebase (tag : Byte) (args : Option Unit) (s : State) : Host.Outcome State Fault Refusal :=
  .next (s.accept 0x02#8 tag (serveGetTimebase args))

end Sys2Proof.Machine
end

