-- ==== Sys2Proof/Machine/Trajectory.lean ====
section
/-! DEFINITION. The trajectory arithmetic of 3.4 and the arming test of 3.3, as functions of a channel
record and of what its step reads from the other blocks. -/

namespace Sys2Proof.Machine

/-- What a channel reads at its step, each as most recently published by its owner (R22). -/
structure StepInputs where
  arm : Bool
  lens : Bool
  /-- the nominal tick rate (R27) -/
  rate : Nat
  stop : StopState
  /-- governor scale applied to the channel (R55) -/
  g : Nat
  latched : Bool
  playerIdle : Bool
  /-- the step belongs to a frame boundary -/
  boundary : Bool
  active : ActiveSource
  controls : Vector Control 12
  deadband : Nat
  focusDemand : Int
  /-- X, the interpolated take position (R62) -/
  takePosition : Int
  lines : DriveLines

/-- A stale input reads as 0 (R49). -/
def Control.read (c : Control) : Int := if c.stale then 0 else c.value

/-- R55: vmax × g ÷ 1024, truncated. -/
def governedSpeed (cfg : ChannelConfig) (g : Nat) : Int := (cfg.vmax * g).tdiv 1024

/-- R56: the rate target of an armed channel. -/
def rateTarget (cfg : ChannelConfig) (deadband g : Nat) (value : Int) : Int :=
  if value.natAbs ≤ deadband then 0 else ((value * cfg.vmax).tdiv 32767 * g).tdiv 1024

/-- R57: the mapped position of a control value. -/
def mappedPosition (cfg : ChannelConfig) (value : Int) : Int :=
  cfg.softMin + floorDiv ((value + 32767) * (cfg.softMax - cfg.softMin)) 65534

/-- R57, R58: the root of 2 × a × distance, the product saturating at 2⁶³ − 1. -/
def speedBound (accel : Int) (distance : Nat) : Int :=
  (isqrt (min maxProduct (2 * accel.toNat * distance)) : Int)

/-- R57: the target velocity toward a position target, from the error e. -/
def positionVelocity (cfg : ChannelConfig) (g : Nat) (e : Int) : Int :=
  e.sign * min (governedSpeed cfg g) (speedBound cfg.accel e.natAbs)

/-- R58: the soft-limit bound on a target velocity, and whether it acted. DESIGN CHOICE (log entry 18): for a p
already beyond the limit the distance is taken as 0, so the bound is 0 and no motion is asked (R31). -/
def softLimitBound (cfg : ChannelConfig) (p tv : Int) : Int × Bool :=
  let distance := if 0 < tv then cfg.softMax * 256 - p else p - cfg.softMin * 256
  let bound := speedBound cfg.accel distance.toNat
  if bound < tv.natAbs then (tv.sign * bound, true) else (tv, false)

/-- R59: v moves toward tv by at most the step limit and is clamped to ±vmax. -/
def velocityStep (cfg : ChannelConfig) (stepLimit v tv : Int) : Int :=
  clampInt (-cfg.vmax) cfg.vmax
    (if v < tv then min tv (v + stepLimit) else if tv < v then max tv (v - stepLimit) else v)

/-- R60: v is added to p, and the result is clamped to the soft limits; whether the clamp acted. -/
def positionUpdate (cfg : ChannelConfig) (p v : Int) : Int × Int × Bool :=
  let p' := p + v
  if cfg.softMax * 256 < p' then (cfg.softMax * 256, 0, true)
  else if p' < cfg.softMin * 256 then (cfg.softMin * 256, 0, true)
  else (p', v, false)

/-- What a source asks at a step: a target velocity (R43), the position target it snaps to, if it has
one, and whether LIMIT has been set on the way. -/
structure Aim where
  tv : Int
  target : Option Int
  limit : Bool
  deriving DecidableEq, Repr

/-- R57: a position source. While `still` its target velocity is 0 (R54). -/
def aimPosition (cfg : ChannelConfig) (g : Nat) (still : Bool) (p target : Int) : Aim :=
  let t := clampInt cfg.softMin cfg.softMax target
  let (tv, bounded) := softLimitBound cfg p (if still then 0 else positionVelocity cfg g (t * 256 - p))
  ⟨tv, some t, t != target || bounded⟩

/-- R56: a velocity source. -/
def aimVelocity (cfg : ChannelConfig) (p tv : Int) : Aim :=
  let (tv, bounded) := softLimitBound cfg p tv
  ⟨tv, none, bounded⟩

/-- R54: in HOLD an arm or head channel on PRESET or APPROACH takes a target velocity of 0. -/
def StepInputs.held (inp : StepInputs) : Bool := inp.stop == .hold && !inp.lens

/-- The aim of a channel at demand position p (R43, R51, R56, R57). -/
def StepInputs.aim (inp : StepInputs) (cfg : ChannelConfig) (armed : Bool) (p : Int) : Aim :=
  match inp.active with
  | .own .hold => aimVelocity cfg p 0
  | .own (.rate k) =>
    aimVelocity cfg p (if armed then rateTarget cfg inp.deadband inp.g inp.controls[k].read else 0)
  | .own (.position k) =>
    if armed then aimPosition cfg inp.g false p (mappedPosition cfg inp.controls[k].read)
    else aimVelocity cfg p 0
  | .own (.preset counts _) => aimPosition cfg inp.g inp.held p counts
  | .own .follow => aimPosition cfg inp.g false p inp.focusDemand
  | .approach target => aimPosition cfg inp.g inp.held p target
  | .take => ⟨inp.takePosition * 256 - p, none, false⟩

/-- R59: the step limit of an ACTIVE channel. -/
def StepInputs.stepLimit (inp : StepInputs) (cfg : ChannelConfig) : Int :=
  if inp.arm && inp.latched then cfg.stopDecel else cfg.accel

/-- What a step in ACTIVE gives. -/
structure Motion where
  p : Int
  v : Int
  limit : Bool
  atTarget : Bool
  overspeed : Bool
  /-- the source asks for motion (R43) -/
  asks : Bool
  deriving DecidableEq, Repr

/-- R61: a position source snaps to its target. -/
def snap (cfg : ChannelConfig) (target : Option Int) (p v : Int) : Option Int :=
  match target with
  | some t =>
    if ((t * 256 - p).natAbs : Int) ≤ cfg.accel ∧ (v.natAbs : Int) ≤ cfg.accel then some (t * 256) else none
  | none => none

/-- R59 to R61: a step under any source but TAKE. -/
def moveByAim (cfg : ChannelConfig) (stepLimit : Int) (a : Aim) (p v : Int) : Motion :=
  let v := velocityStep cfg stepLimit v a.tv
  let (p, v, clamped) := positionUpdate cfg p v
  match snap cfg a.target p v with
  | some q => ⟨q, 0, a.limit || clamped, true, false, a.tv != 0⟩
  | none => ⟨p, v, a.limit || clamped, false, false, a.tv != 0⟩

/-- R62: a step under TAKE, toward the interpolated position X. -/
def moveByTake (cfg : ChannelConfig) (x p : Int) : Motion :=
  let wanted := x * 256 - p
  let step := clampInt (-cfg.vmax) cfg.vmax wanted
  let clipped := step != wanted
  let (p, v, clamped) := positionUpdate cfg p step
  ⟨p, v, clipped || clamped, false, clipped, wanted != 0⟩

/-- The motion of a channel in ACTIVE. -/
def StepInputs.move (inp : StepInputs) (cfg : ChannelConfig) (armed : Bool) (p v : Int) : Motion :=
  match inp.active with
  | .take => moveByTake cfg inp.takePosition p
  | .own _ | .approach _ => moveByAim cfg (inp.stepLimit cfg) (inp.aim cfg armed p) p v

/-- The control input that the active source names. -/
def ActiveSource.input : ActiveSource → Option (Fin 12)
  | .own (.rate k) | .own (.position k) => some k
  | .own (.preset _ _) | .own .hold | .own .follow | .approach _ | .take => none

/-- R53: a control input found stale at the step disarms the channel. -/
def StepInputs.foundStale (inp : StepInputs) : Bool :=
  match inp.active.input with
  | some k => inp.controls[k].stale
  | none => false

/-- R52: whether the stop state lets the channel arm. -/
def StepInputs.mayArm (inp : StepInputs) : Bool :=
  match inp.stop with
  | .run | .protective => true
  | .hold => inp.lens
  | .emergency => false

/-- The arming test of R52, at demand position p. -/
def StepInputs.armingTest (inp : StepInputs) (cfg : ChannelConfig) (p : Int) : Bool :=
  match inp.active with
  | .own (.rate k) =>
    !inp.controls[k].stale && inp.mayArm && inp.controls[k].value.natAbs ≤ inp.deadband
  | .own (.position k) =>
    !inp.controls[k].stale && inp.mayArm &&
      ((mappedPosition cfg inp.controls[k].value - floorDiv p 256).natAbs : Int) ≤ cfg.pickupWindow
  | .own (.preset _ _) | .own .hold | .own .follow | .approach _ | .take => false

end Sys2Proof.Machine
end

