-- ==== Sys2Proof/Machine/Channels.lean ====
section
/-! DEFINITION. The Channel Units (chapter 2): encoder reads, the channel step with its state machine and
faults, and the channel requests. -/

namespace Sys2Proof.Machine

/-! ### Encoder reads (R22 to R24, R201) -/

/-- A good read: a complete answer whose check byte matches (R22, R201). -/
def readIsGood : ReadEnd → Bool
  | .answer b => crc8 (b.toList.take 5) == b[5]
  | .windowClosed => false

/-- The position of an answer: bytes 0 to 3, signed (12.3). -/
def answerPosition (b : Vector Byte 6) : Int := toSigned 4 (leNat (b.toList.take 4))

/-- The status of an answer: bit 0 of byte 4 is WARN (12.3). -/
def answerWarn (b : Vector Byte 6) : Bool := b[4].getLsbD 0

/-- R23: a bad read. At the first of a run the position is extrapolated by the last demand step. -/
def Channel.badRead (c : Channel) : Channel :=
  { c with
    readGood := false
    encoderErrors := bump 1023 c.encoderErrors
    badRun := bump 2 c.badRun
    encoder := if c.badRun = 0 then c.encoder + c.demandStep else c.encoder }

/-- The completion of a read (R22 to R24), before the fault it may take. -/
def Channel.read (r : ReadEnd) (c : Channel) : Channel :=
  let c := { c with readPending := false }
  match r with
  | .answer b =>
    if readIsGood r then
      { c with readGood := true, badRun := 0, encoder := answerPosition b, warn := answerWarn b }
    else c.badRead
  | .windowClosed => c.badRead

/-! ### Faults (R38) -/

def FaultSet.insert (k : FaultKind) (f : FaultSet) : FaultSet :=
  match k with
  | .encoderLost => { f with encoderLost := true }
  | .driveFault => { f with driveFault := true }
  | .driveNotReady => { f with driveNotReady := true }
  | .following => { f with following := true }

/-- R38: the kind joins the fault set; a channel not yet FAULTED goes to FAULTED at once. DESIGN CHOICE (log entry 7):
the brake timer that this abandons is held at 0 from then on, and the stop phase of a stop that it ends stands until
the next stop. -/
def Channel.takeFault (k : FaultKind) (c : Channel) : Channel :=
  if c.state = .faulted then { c with faults := c.faults.insert k }
  else { c with faults := c.faults.insert k, state := .faulted, v := 0, rest := 0, brakeTimer := 0
                atTarget := false }

def Channel.takeFaultIf (b : Bool) (k : FaultKind) (c : Channel) : Channel :=
  if b then c.takeFault k else c

/-- R28: the states in which the ready line is judged at every step. -/
def Channel.readyJudged (c : Channel) : Bool :=
  match c.state with
  | .active | .parking | .stopping => true
  | .disabled | .releasing | .parked | .faulted => false

/-- R28: the drive lines are sampled; with the drive enabled they may take a fault. DEDUCED (log entry 18): an
asserted fault line takes DRIVE_FAULT and leaves the channel FAULTED, a state in which the ready line of the
same step is not judged. -/
def Channel.sampleLines (lines : DriveLines) (c : Channel) : Channel :=
  let c := { c with ready := lines.ready, faultLine := lines.fault }
  if c.driveEnable && lines.fault then c.takeFault .driveFault
  else c.takeFaultIf (c.readyJudged && !lines.ready) .driveNotReady

/-- R18: the unit value. -/
def Channel.publishUnit (arm : Bool) (c : Channel) : Channel :=
  if arm then
    { c with unitValue := some (floorDiv ((c.encoder - c.cfg.zeroOffset) * c.cfg.multiplier) 65536)
             unitFresh := true }
  else c

/-! ### The state behaviour of 2.5 -/

/-- R25: the demand follows the encoder position. -/
def Channel.follow (c : Channel) : Channel := { c with p := 256 * c.encoder, v := 0, atTarget := false }

/-- R27: the brake timer expires at this step. -/
def Channel.timerDue (c : Channel) : Bool := c.brakeTimer ≤ 1

def Channel.countDown (c : Channel) : Channel :=
  { c with brakeTimer := c.brakeTimer - 1, atTarget := false }

/-- R30: the rest counter is held at 0 for every channel while the Player is not IDLE, and for arm channels in
PROTECTIVE. -/
def StepInputs.restHeld (inp : StepInputs) : Bool := !inp.playerIdle || (inp.arm && inp.stop == .protective)

def Channel.holdRest (inp : StepInputs) (c : Channel) : Channel :=
  { c with rest := if inp.restHeld then 0 else c.rest }

/-- R30: the rest counter after a step in ACTIVE. -/
def Channel.countRest (inp : StepInputs) (m : Motion) (c : Channel) : Nat :=
  if m.v != 0 || m.asks || inp.restHeld then 0
  else if inp.boundary then c.rest + 1 else c.rest

/-- R30: ACTIVE. -/
def Channel.stepActive (inp : StepInputs) (armed : Bool) (c : Channel) : Channel :=
  let m := inp.move c.cfg armed c.p c.v
  let rest := c.countRest inp m
  let c := { c with p := m.p, v := m.v, limit := m.limit, atTarget := m.atTarget, rest := rest
                    overspeed := c.overspeed || m.overspeed }
  if c.cfg.parkDelay ≠ 0 ∧ c.cfg.parkDelay ≤ rest then
    { c with state := .parking, v := 0, atTarget := false
             brakeTimer := msToTicks c.cfg.engageTime inp.rate }
  else c

/-- R29: RELEASING; at the timer's expiry ACTIVE, or FAULTED without ready. -/
def Channel.stepReleasing (inp : StepInputs) (c : Channel) : Channel :=
  if c.timerDue then
    if inp.lines.ready then { c with state := .active, v := 0, rest := 0, brakeTimer := 0, atTarget := false }
    else (c.takeFault .driveNotReady).follow
  else c.countDown

/-- R31: PARKED. -/
def Channel.stepParked (inp : StepInputs) (armed : Bool) (c : Channel) : Channel :=
  let c := c.follow
  if (inp.aim c.cfg armed c.p).tv ≠ 0 then c.unpark inp.rate else c

/-- R33: the RAMP phase of STOPPING. -/
def Channel.stepRamp (inp : StepInputs) (c : Channel) : Channel :=
  let v := velocityStep c.cfg c.cfg.stopDecel c.v 0
  let (p, v, clamped) := positionUpdate c.cfg c.p v
  let c := { c with p := p, v := v, limit := clamped, atTarget := false }
  if v = 0 then { c with phase := .engage, brakeTimer := msToTicks c.cfg.engageTime inp.rate } else c

/-- The state behaviour of a step (2.5). -/
def Channel.behave (inp : StepInputs) (armed : Bool) (c : Channel) : Channel :=
  match c.state with
  | .disabled | .faulted => c.follow
  | .releasing => c.stepReleasing inp
  | .active => c.stepActive inp armed
  | .parking => if c.timerDue then { c with state := .parked, brakeTimer := 0 }.follow else c.countDown
  | .parked => c.stepParked inp armed
  | .stopping =>
    match c.phase with
    | .ramp => c.stepRamp inp
    | .engage => if c.timerDue then c.toDisabled.follow else c.countDown

/-- R25: the drive demand p ÷ 256 is sent, and the demand step kept. -/
def Channel.send (c : Channel) : Channel :=
  { c with demand := floorDiv c.p 256, demandStep := floorDiv c.p 256 - c.demand }

/-- R37: the following check, of a step that began in ACTIVE, PARKING or STOPPING. -/
def Channel.checkFollowing (judged : Bool) (c : Channel) : Channel :=
  c.takeFaultIf (judged && c.cfg.followingLimit < (c.demand - c.encoder).natAbs) .following

/-- The states in which the armed flag does not stand (R53). -/
def ChState.disarms : ChState → Bool
  | .disabled | .stopping | .faulted => true
  | .releasing | .active | .parking | .parked => false

/-- What the arming test is made against: the demand, which in PARKED follows the encoder (R52). -/
def Channel.armingDemand (c : Channel) : Option Int :=
  match c.state with
  | .active => some c.p
  | .parked => some (256 * c.encoder)
  | .disabled | .releasing | .parking | .stopping | .faulted => none

/-- R51 to R53: the armed flag as the step's behaviour sees it. -/
def Channel.armedAt (inp : StepInputs) (armed : Bool) (c : Channel) : Bool :=
  if inp.foundStale then false
  else armed ||
    match c.armingDemand with
    | some p => inp.armingTest c.cfg p
    | none => false

/-- The checks of a step: the read with ENCODER_LOST, the unit value, the drive lines (R22, R23, R28); and the
hold on the rest counter (R30). -/
def Channel.checks (inp : StepInputs) (r : ReadEnd) (c : Channel) : Channel :=
  let lost := !readIsGood r && c.badRun == 1
  ((((c.read r).takeFaultIf lost .encoderLost).publishUnit inp.arm).sampleLines inp.lines).holdRest inp

/-- The whole step of a channel (R22), with the armed flag it leaves. -/
def Channel.step (inp : StepInputs) (r : ReadEnd) (armed : Bool) (c : Channel) : Channel × Bool :=
  let c := c.checks inp r
  let armed := c.armedAt inp armed
  let judged := c.readyJudged
  let c := ((c.behave inp armed).send).checkFollowing judged
  (c, armed && !c.state.disarms)

/-- R62: the step takes a clamped TAKE step. -/
def Channel.takesClampedStep (inp : StepInputs) (r : ReadEnd) (c : Channel) : Bool :=
  (c.checks inp r).state == .active && inp.active == .take &&
    (moveByTake c.cfg inp.takePosition c.p).overspeed

/-- The events of R40 between a record and the one its step leaves. -/
def Channel.reportDue (before after : Channel) : Bool :=
  before.warn != after.warn || before.faults != after.faults ||
  (before.state != .faulted && after.state == .faulted) ||
  (before.state == .parked && after.state == .disabled)

/-! ### The step among the other blocks -/

def State.stepInputs (i : Fin 10) (lines : DriveLines) (s : State) : StepInputs where
  arm := isArm i
  lens := isLens i
  rate := s.tb.tickRate
  stop := s.stop.state
  g := if isArm i then s.gov.scale else 1024
  latched := s.gov.latch.isSet
  playerIdle := s.player.state == .idle
  boundary := s.tb.tickIndex == 0
  active := s.router.routes[i].active
  controls := s.router.controls
  deadband := s.router.deadband
  focusDemand := s.lens.follow.demand
  takePosition := s.player.positions[i]
  lines := lines

/-- Sets a channel's record and armed flag. -/
def State.putChannel (i : Fin 10) (c : Channel) (armed : Bool) (s : State) : State :=
  { s with
    chans := s.chans.set i c
    router := { s.router with routes := s.router.routes.set i { s.router.routes[i] with armed := armed } } }

/-- A channel's entry to FAULTED at the Player and the Stop Supervisor (R38, R120, R176). -/
def State.channelFaulted (i : Fin 10) (s : State) : State :=
  let s := if s.heldSet.contains i then s.flagPass fun f => { f with channelFault := true } else s
  match armIndex i with
  | some k => s.armFault k
  | none => s

/-- A channel has a read to complete: it is present and has issued one at the tick (R22). -/
def Channel.stepReady (c : Channel) : Bool := c.cfg.present && c.readPending

/-- The completion of a read: the channel's step (R22). -/
def State.channelStep (i : Fin 10) (r : ReadEnd) (lines : DriveLines) (s : State) : State :=
  let c := s.chans[i]
  if !c.stepReady then s
  else
    let inp := s.stepInputs i lines
    let (c', armed) := c.step inp r s.router.routes[i].armed
    let s := (s.putChannel i c' armed).raiseIf (c.reportDue c') (.fault i)
    let s := if c.takesClampedStep inp r then s.flagPass fun f => { f with overspeed := true } else s
    if c.state ≠ .faulted ∧ c'.state = .faulted then s.channelFaulted i else s

/-- ENCODER_ANSWER (R22). -/
def execEncoderAnswer (ch : Fin 10) (bytes : Vector Byte 6) (lines : DriveLines) (s : State) :
    Host.Outcome State Fault Refusal :=
  .next (s.channelStep ch (.answer bytes) lines).settle

/-- ENCODER_READ_WINDOW_CLOSE (R22). -/
def execEncoderReadWindowClose (ch : Fin 10) (lines : DriveLines) (s : State) :
    Host.Outcome State Fault Refusal :=
  .next (s.channelStep ch .windowClosed lines).settle

/-- A running brake timer that the channel's next step brings to 0 (R27). -/
def Channel.expiryDue (c : Channel) : Bool :=
  c.timerDue &&
  match c.state with
  | .releasing | .parking => true
  | .stopping => decide (c.phase = .engage)
  | .disabled | .active | .parked | .faulted => false

/-- BRAKE_TIMER_EXPIRY (R27): the step at which the brake timer reaches 0. -/
def execBrakeTimerExpiry (ch : Fin 10) (read : ReadEnd) (lines : DriveLines) (s : State) :
    Host.Outcome State Fault Refusal :=
  .next (s.whenDue s.chans[ch].expiryDue fun s => s.channelStep ch read lines).settle

/-- The channel's step would take it from ACTIVE to PARKING (R30). -/
def State.parkingDue (ch : Fin 10) (read : ReadEnd) (lines : DriveLines) (s : State) : Bool :=
  let c := s.chans[ch]
  c.state == .active &&
    (c.step (s.stepInputs ch lines) read s.router.routes[ch].armed).1.state == .parking

/-- PARK_DELAY_REACHED (R30): the step at which the rest counter reaches the park delay. -/
def execParkDelayReached (ch : Fin 10) (read : ReadEnd) (lines : DriveLines) (s : State) :
    Host.Outcome State Fault Refusal :=
  .next (s.whenDue (s.parkingDue ch read lines) fun s => s.channelStep ch read lines).settle

/-! ### CONFIGURE CHANNEL and GET CHANNEL (R19 to R21) -/

def inRange (lo hi x : Int) : Bool := lo ≤ x && x ≤ hi

def yesNo : Nat → Option Bool
  | 0 => some false
  | 1 => some true
  | _ => none

def channelIndex (n : Nat) : Option (Fin 10) := if h : n < 10 then some ⟨n, h⟩ else none

/-- The ranges of the table of 2.2. -/
def checkChannelConfig (a : ChannelArgs) : Option ChannelConfig :=
  match yesNo a.present with
  | none => none
  | some present =>
    if inRange (-2147483648) 2147483647 a.zeroOffset && inRange 1 2147483647 a.multiplier &&
        inRange (-2147483648) 2147483647 a.softMin && inRange (-2147483648) 2147483647 a.softMax &&
        a.softMin < a.softMax && inRange 1 16777216 a.vmax && inRange 1 a.vmax a.accel &&
        inRange a.accel 16777216 a.stopDecel && inRange 1 1048576 a.followingLimit &&
        a.parkDelay ≤ 1000 && a.releaseTime ≤ 1000 && a.engageTime ≤ 1000 &&
        inRange 0 1048576 a.pickupWindow then
      some { present := present, zeroOffset := a.zeroOffset, multiplier := a.multiplier
             softMin := a.softMin, softMax := a.softMax, vmax := a.vmax, accel := a.accel
             stopDecel := a.stopDecel, followingLimit := a.followingLimit, parkDelay := a.parkDelay
             releaseTime := a.releaseTime, engageTime := a.engageTime, pickupWindow := a.pickupWindow }
    else none

/-- The safety fields are equal: the free fields are park delay and pickup window (2.2). -/
def ChannelConfig.sameSafety (a b : ChannelConfig) : Bool :=
  { a with parkDelay := b.parkDelay, pickupWindow := b.pickupWindow } == b

/-- R20: the record under its new configuration. The unit value published last stands (R21), and counts for
the pose again once the channel publishes a new one (R66). -/
def Channel.configure (cfg : ChannelConfig) (c : Channel) : Channel :=
  match c.cfg.present, cfg.present with
  | false, true => { c with cfg := cfg, badRun := 0, demandStep := 0, unitFresh := false, readPending := false }
  | true, false =>
    { c with cfg := cfg, faults := .empty, state := .disabled, p := 0, v := 0, demand := 0, encoder := 0
             badRun := 0, encoderErrors := 0, rest := 0, unitFresh := false, readPending := false
             atTarget := false }
  | true, true | false, false => { c with cfg := cfg }

/-- R20: an accepted configuration takes effect. -/
def State.configureChannel (i : Fin 10) (cfg : ChannelConfig) (s : State) : State :=
  let removed := s.chans[i].cfg.present && !cfg.present
  let wasFaulted := s.chans[i].state == .faulted
  let s := s.modChan i (Channel.configure cfg)
  if removed && wasFaulted then (s.armFaultGone i).raise (.fault i) else s

/-- The channels of the Recorder's set while it is not IDLE (R19). -/
def State.recorderSet (s : State) : List (Fin 10) :=
  match s.recorder.state, s.recorder.slot with
  | .idle, _ => []
  | _, none => []
  | _, some i => s.mem.slots[i].set

/-- CONFIGURE CHANNEL (R19), its checks in order. -/
def serveConfigureChannel (args : Option (Nat × ChannelArgs)) (s : State) : Served :=
  withPayload args s fun a =>
    match channelIndex a.1, checkChannelConfig a.2 with
    | some i, some cfg =>
      let c := s.chans[i]
      let removing := c.cfg.present && !cfg.present
      if isArm i && removing && s.link.mode == .operate then s.refuse .wrongMode
      else if s.saving then s.refuse .busy
      else if c.state != .disabled && c.state != .faulted then s.refuse .wrongState
      else if removing && s.recorderSet.contains i then s.refuse .busy
      else if s.store.locked && !cfg.sameSafety c.cfg then s.refuse .locked
      else (s.configureChannel i cfg).accepted
    | _, _ => s.refuse .outOfRange

def execConfigureChannel (tag : Byte) (args : Option (Nat × ChannelArgs)) (s : State) :
    Host.Outcome State Fault Refusal :=
  .next (s.accept 0x08#8 tag (serveConfigureChannel args))

/-- The thirteen fields of a configuration, at the widths of CONFIGURE CHANNEL. -/
def ChannelConfig.fields (c : ChannelConfig) : List Field :=
  [flag c.present, i32 c.zeroOffset, i32 c.multiplier, i32 c.softMin, i32 c.softMax, i32 c.vmax,
    i32 c.accel, i32 c.stopDecel, i32 c.followingLimit, u16 c.parkDelay, u16 c.releaseTime,
    u16 c.engageTime, i32 c.pickupWindow]

/-- The fields of R21. ENCODER_WARN and LIMIT go out as two yes/no bytes (DESIGN CHOICE, log entry 28), and a unit
value beyond 32 bits, or a rest counter beyond 16, as its low bits (DESIGN CHOICE, log entry 29). While no brake timer
runs, after it was abandoned or since the reset, its field carries 0, and outside STOPPING the stop phase is the last
one, or RAMP since the reset (DESIGN CHOICE, log entries 7 and 10). -/
def Channel.fields (arm : Bool) (c : Channel) : List Field :=
  c.cfg.fields ++
  [u8 c.state.ctorIdx, u8 c.phase.ctorIdx, i32 c.demand, i32 c.v, i32 c.encoder, flag c.readGood,
    u16 c.encoderErrors, c.faults.field, flag c.warn, flag c.limit, u16 c.brakeTimer, u16 c.rest]
  ++ if arm then [optField 4 c.unitValue] else []

/-- GET CHANNEL (R21). -/
def serveGetChannel (args : Option Nat) (s : State) : Served :=
  withPayload args s fun n =>
    match channelIndex n with
    | some i => s.accepted (s.chans[i].fields (isArm i))
    | none => s.refuse .outOfRange

def execGetChannel (tag : Byte) (args : Option Nat) (s : State) : Host.Outcome State Fault Refusal :=
  .next (s.accept 0x09#8 tag (serveGetChannel args))

/-! ### ENABLE CHANNELS, DISABLE CHANNELS, CLEAR FAULTS (R26, R34, R39) -/

/-- The outcomes of R26, in its order. -/
inductive EnableOutcome where
  | absent | enabled | outOfRange | notDisabled | notNamed
  deriving DecidableEq, Repr

/-- The group mask names a channel's group: bit 0 arm, bit 1 head, bit 2 lens (R198). -/
def groupNamed (mask : Nat) (i : Fin 10) : Bool :=
  (isArm i && mask.testBit 0) || (isHead i && mask.testBit 1) || (isLens i && mask.testBit 2)

/-- R26: what ENABLE CHANNELS finds at a channel. -/
def Channel.enableOutcome (named : Bool) (c : Channel) : EnableOutcome :=
  if !named then .notNamed
  else if !c.cfg.present then .absent
  else if c.state != .disabled then .notDisabled
  else if c.withinLimits then .enabled
  else .outOfRange

/-- ENABLE CHANNELS (R26). -/
def serveEnableChannels (args : Option Nat) (s : State) : Served :=
  withPayload args s fun mask =>
    if s.stop.state = .emergency then s.refuse .refusedSafety
    else
      let outcome (i : Fin 10) := s.chans[i].enableOutcome (groupNamed mask i)
      (s.mapChans fun i c => if outcome i = .enabled then c.toReleasing s.tb.tickRate else c).accepted
        ((List.finRange 10).map fun i => u8 (outcome i).ctorIdx)

def execEnableChannels (tag : Byte) (args : Option Nat) (s : State) :
    Host.Outcome State Fault Refusal :=
  .next (s.accept 0x0A#8 tag (serveEnableChannels args))

/-- R34: DISABLE CHANNELS changes a named channel. -/
def Channel.disableChanges (named : Bool) (c : Channel) : Bool :=
  named && c.cfg.present &&
  match c.state with
  | .releasing | .active | .parking | .parked => true
  | .disabled | .stopping | .faulted => false

/-- DISABLE CHANNELS (R34). -/
def serveDisableChannels (args : Option Nat) (s : State) : Served :=
  withPayload args s fun mask =>
    if (List.finRange 10).any fun i => mask.testBit i.val && s.router.routes[i].held then s.refuse .busy
    else
      let changed (i : Fin 10) := s.chans[i].disableChanges (mask.testBit i.val)
      ((s.mapChans fun i c => if changed i then c.bringDown s.tb.tickRate else c).disarm changed).accepted
        ((List.finRange 10).map fun i => flag (changed i))

def execDisableChannels (tag : Byte) (args : Option Nat) (s : State) :
    Host.Outcome State Fault Refusal :=
  .next (s.accept 0x0B#8 tag (serveDisableChannels args))

/-- The outcomes of R39, in its order. -/
inductive ClearOutcome where
  | cleared | stillFaulted | notFaulted
  deriving DecidableEq, Repr

/-- R39: every kind of the fault set is gone, by the last column of the fault table. -/
def Channel.faultsGone (c : Channel) : Bool :=
  (!c.faults.encoderLost || c.readGood) && (!c.faults.driveFault || !c.faultLine)

/-- R39: a channel's outcome, by the state the request leaves it in; so a FAULTED channel that the mask does not
name is STILL_FAULTED (DEDUCED, log entry 15). -/
def Channel.clearOutcome (named : Bool) (c : Channel) : ClearOutcome :=
  if c.state != .faulted then .notFaulted
  else if named && c.faultsGone then .cleared
  else .stillFaulted

/-- R39, R120, R40: a channel is cleared. -/
def State.clearChannel (i : Fin 10) (s : State) : State :=
  ((s.modChan i fun c => { c.toDisabled with faults := .empty }).armFaultGone i).raise (.fault i)

/-- CLEAR FAULTS (R39). -/
def serveClearFaults (args : Option Nat) (s : State) : Served :=
  withPayload args s fun mask =>
    let outcome (i : Fin 10) := s.chans[i].clearOutcome (mask.testBit i.val)
    let cleared := (List.finRange 10).filter fun i => outcome i == .cleared
    ((cleared.foldl (fun s i => s.clearChannel i) s).disarm fun i => outcome i == .cleared).accepted
      ((List.finRange 10).map fun i => u8 (outcome i).ctorIdx)

def execClearFaults (tag : Byte) (args : Option Nat) (s : State) : Host.Outcome State Fault Refusal :=
  .next (s.accept 0x0C#8 tag (serveClearFaults args))

end Sys2Proof.Machine
end

