-- ==== Sys2Proof/Machine/Lens.lean ====
section
/-! DEFINITION. The Lens Unit (chapter 8): the forward and inverse maps, lens values, focus follow, and the
lens requests. -/

namespace Sys2Proof.Machine

/-! ### The maps (R131, R132) -/

/-- R131: the forward map, counts to value, clamped to the end values. -/
def forwardMap : List LensPoint → Int → Int
  | [], _ => 0
  | [a], _ => a.value
  | a :: b :: rest, c =>
    if c < a.counts then a.value
    else if c ≤ b.counts then
      roundHalfUp (a.value * (b.counts - a.counts) + (b.value - a.value) * (c - a.counts))
        (b.counts - a.counts)
    else forwardMap (b :: rest) c

/-- V lies between two values, ends included. -/
def between (a b v : Int) : Bool := (a ≤ v && v ≤ b) || (b ≤ v && v ≤ a)

/-- R132 within the table range: the first segment whose values hold V. -/
def inverseSegment : List LensPoint → Int → Int
  | [], _ => 0
  | [a], _ => a.counts
  | a :: b :: rest, v =>
    if between a.value b.value v then
      roundHalfUp (a.counts * (b.value - a.value) + (b.counts - a.counts) * (v - a.value))
        (b.value - a.value)
    else inverseSegment (b :: rest) v

/-- The first and last points of a loaded table. -/
def tableEnds : List LensPoint → Option (LensPoint × LensPoint)
  | [] => none
  | a :: rest => some (a, (a :: rest).getLast (List.cons_ne_nil a rest))

/-- R132: the inverse map, value to counts, and whether it clamped (BEYOND_TABLE). -/
def inverseMap (table : List LensPoint) (v : Int) : Int × Bool :=
  match tableEnds table with
  | none => (0, false)
  | some (a, z) =>
    if between a.value z.value v then (inverseSegment table v, false)
    else if (a.value < z.value) = (v < a.value) then (a.counts, true)
    else (z.counts, true)

/-- The lens table index of a lens channel: ZOOM 0, FOCUS 1, IRIS 2. -/
def lensIndex (i : Fin 10) : Option (Fin 3) :=
  if h : 7 ≤ i.val then some ⟨i.val - 7, by omega⟩ else none

def lensChannel (j : Fin 3) : Fin 10 := ⟨7 + j.val, by omega⟩

/-! ### The tick (R133, R139 to R142) -/

/-- R133: the lens value of a lens channel. -/
def State.lensValue (s : State) (j : Fin 3) : Option Int :=
  let c := s.chans[lensChannel j]
  let table := s.lens.tables[j]
  if c.cfg.present && !table.isEmpty then some (forwardMap table c.encoder) else none

/-- R139: what a tick finds at the focus target. -/
inductive TargetFound where
  | seen (p : Point3)
  | holding
  | lost
  deriving DecidableEq, Repr

def FocusTarget.find (t : FocusTarget) (table : List CrewEntry) : TargetFound :=
  match t.kind with
  | .none => .lost
  | .point => .seen ⟨t.x, t.y, t.z⟩
  | .tag =>
    match table.find? fun e => e.tagId == t.tagId with
    | none => .lost
    | some e =>
      match e.state with
      | .tracked => .seen ⟨e.x, e.y, t.eyeHeight⟩
      | .stale => .holding
      | .lost => .lost

/-- R140: the straight-line distance between two points, rounded down. -/
def rawDistance (a b : Point3) : Int :=
  let dx := b.x - a.x
  let dy := b.y - a.y
  let dz := b.z - a.z
  (isqrt (dx * dx + dy * dy + dz * dz).toNat : Int)

/-- R139, R142: the record of a FOLLOWING tick with the figures it has formed. -/
def followRecordOf (x : FocusFigures) : FollowRecord where
  state := .following
  demand := x.demand.toInt
  distance := some x.distance.toInt
  followLost := false
  beyondTable := x.beyondTable

/-- R142: a FOLLOWING tick forms the distance and the focus demand through the FOCUS table. Without a table, of which
R142 says nothing, they are free (log entry 31). -/
def followToward (untabled : FocusFigures) (table : List LensPoint) (distance : Int) : FollowRecord :=
  match tableEnds table with
  | none => followRecordOf untabled
  | some (a, z) =>
    let d := clampInt (min a.value z.value) (max a.value z.value) distance
    { state := .following, demand := (inverseMap table d).1, distance := some d, followLost := false
      beyondTable := d != distance }

/-- R139: each tick decides the follow state afresh while FOCUS follows. -/
def State.followTick (s : State) : FollowRecord :=
  let f := s.lens.follow
  if f.state = .inactive then f
  else
    match s.lens.target.find s.crew.table with
    | .seen p =>
      followToward (Config.focusWithoutTable s.tb.lastTick) s.lens.tables[1]
        (rawDistance s.pose.head p + s.lens.target.offset)
    | .holding => { f with state := .holding, followLost := false }
    | .lost => { f with state := .lost, followLost := true }

/-- The Lens Unit's work at a tick. -/
def State.lensTick (s : State) : State :=
  { s with lens := { s.lens with values := Vector.ofFn s.lensValue, follow := s.followTick } }

/-! ### LOAD LENS TABLE (R134, R135) -/

/-- The value range of a lens channel's table (8.1). -/
def valueRange (j : Fin 3) : Int × Int :=
  match j with
  | 0 => (10, 50000)
  | 1 => (100, 1000000)
  | 2 => (50, 6400)

/-- Each number of a list stands in a relation to the next. -/
def chained (r : Int → Int → Bool) : List Int → Bool
  | a :: b :: rest => r a b && chained r (b :: rest)
  | _ => true

/-- R130, R134: a table that may be loaded for a lens channel. -/
def lensTableOk (j : Fin 3) (points : List LensPoint) : Bool :=
  let (lo, hi) := valueRange j
  let counts := points.map (·.counts)
  let values := points.map (·.value)
  2 ≤ points.length && points.length ≤ 24 &&
  counts.all (inRange (-2147483648) 2147483647) && values.all (inRange lo hi) &&
  chained (fun a b => a < b) counts &&
  (chained (fun a b => a < b) values || chained (fun a b => b < a) values)

def lensChannelIndex (n : Nat) : Option (Fin 3) :=
  match channelIndex n with
  | some i => lensIndex i
  | none => none

/-- LOAD LENS TABLE, load form (R134), its checks in order. -/
def serveLoadLensTable (args : Option LensTableArgs) (s : State) : Served :=
  withPayload args s fun a =>
    match lensChannelIndex a.channel with
    | none => s.refuse .outOfRange
    | some j =>
      let r := s.router.routes[lensChannel j]
      if !lensTableOk j a.points then s.refuse .outOfRange
      else if s.saving then s.refuse .busy
      else if r.held then s.refuse .busy
      else if lensChannel j = focus ∧ r.active = .own .follow then s.refuse .busy
      else { s with lens := { s.lens with tables := s.lens.tables.set j a.points } }.accepted

def execLoadLensTable (tag : Byte) (args : Option LensTableArgs) (s : State) :
    Host.Outcome State Fault Refusal :=
  .next (s.accept 0x38#8 tag (serveLoadLensTable args))

def FocusTarget.fields (t : FocusTarget) : List Field :=
  [u8 t.kind.ctorIdx, i32 t.x, i32 t.y, i32 t.z, u16 t.tagId, i32 t.eyeHeight, i32 t.offset]

/-- The follow record (R135, R138). DESIGN CHOICE (log entry 28): FOLLOW_LOST and BEYOND_TABLE go out as two yes/no
bytes. -/
def FollowRecord.fields (f : FollowRecord) : List Field :=
  [u8 f.state.ctorIdx, i32 f.demand, optField 4 f.distance, flag f.followLost, flag f.beyondTable]

/-- The fields of R135. DESIGN CHOICE (log entry 28): a point count byte stands between the loaded byte and the
points. DESIGN CHOICE (log entry 7): a point's value and the lens value take 32 bits signed on every lens channel. -/
def LensUnit.fields (l : LensUnit) (j : Fin 3) : List Field :=
  [flag (!l.tables[j].isEmpty), u8 l.tables[j].length]
  ++ l.tables[j].flatMap (fun p => [i32 p.counts, i32 p.value])
  ++ [optField 4 l.values[j]]
  ++ if j = 1 then l.target.fields ++ l.follow.fields else []

/-- LOAD LENS TABLE, read form (R135). -/
def serveReadLensTable (args : Option Nat) (s : State) : Served :=
  withPayload args s fun n =>
    match lensChannelIndex n with
    | some j => s.accepted (s.lens.fields j)
    | none => s.refuse .outOfRange

def execLoadLensTableReadForm (tag : Byte) (args : Option Nat) (s : State) :
    Host.Outcome State Fault Refusal :=
  .next (s.accept 0x38#8 tag (serveReadLensTable args))

/-! ### SET FOCUS TARGET (R137) -/

/-- R137: the record a request gives, when its values lie in their ranges. As R137 says for NONE, the fields that a
POINT or a TAG does not carry take their defaults (DESIGN CHOICE, log entry 15). -/
def checkFocus : FocusArg → Option FocusTarget
  | .noTarget offset =>
    if inRange (-20000) 20000 offset then some { FocusTarget.default with offset := offset } else none
  | .point x y z offset =>
    if inRange (-20000) 20000 offset then
      some { FocusTarget.default with kind := .point, x := x, y := y, z := z, offset := offset }
    else none
  | .tag id eye offset =>
    if 1 ≤ id ∧ id ≤ 65534 ∧ inRange 0 4000 eye ∧ inRange (-20000) 20000 offset then
      some { FocusTarget.default with kind := .tag, tagId := id, eyeHeight := eye, offset := offset }
    else none
  | .other _ => none

/-- SET FOCUS TARGET (R137), its checks in order. -/
def serveSetFocusTarget (args : Option FocusArg) (s : State) : Served :=
  withPayload args s fun a =>
    match a with
    | .other _ => s.refuse .badFormat
    | a =>
      match checkFocus a with
      | none => s.refuse .outOfRange
      | some t =>
        if s.saving then s.refuse .busy
        else { s with lens := { s.lens with target := t
                                            follow := { s.lens.follow with distance := none } } }.accepted

def execSetFocusTarget (tag : Byte) (args : Option FocusArg) (s : State) :
    Host.Outcome State Fault Refusal :=
  .next (s.accept 0x39#8 tag (serveSetFocusTarget args))

end Sys2Proof.Machine
end

