-- ==== Sys2Proof/Machine/Routing.lean ====
section
/-! DEFINITION. The Demand Router (chapter 3): the control table at the tick, SET ROUTE in both forms, GET
ROUTES and CONTROL SAMPLE. -/

namespace Sys2Proof.Machine

/-! ### The control table (R48, R49) -/

/-- The control timeout in ticks (R49). -/
def State.controlTicks (s : State) : Nat := msToTicks s.router.controlTimeout s.tb.tickRate

/-- R49: one tick older; an age beyond the timeout makes the input stale until a CONTROL SAMPLE. The age is
judged at ticks alone, also where a SET TIMEBASE has shortened the timeout (DESIGN CHOICE, log entry 18). -/
def Control.older (limit : Nat) (c : Control) : Control :=
  { c with age := bump 65535 c.age, stale := c.stale || limit < bump 65535 c.age }

/-- The Router's work at a tick (R49). -/
def State.controlTick (s : State) : State :=
  let limit := s.controlTicks
  let controls := Vector.ofFn fun k => s.router.controls[k].older limit
  { s with router := { s.router with controls := controls } }

/-- R48: the value of an input, −32768 becoming −32767, with its age at 0. -/
def Router.sample (r : Router) (pair : Nat × Int) : Router :=
  if h : pair.1 < 12 then { r with controls := r.controls.set pair.1 ⟨max (-32767) pair.2, 0, false⟩ }
  else r

/-- CONTROL SAMPLE (R48). -/
def serveControlSample (args : Option (List (Nat × Int))) (s : State) : Served :=
  withPayload args s fun pairs =>
    if pairs.isEmpty || 12 < pairs.length then s.refuse .badFormat
    else if pairs.any fun p => 12 ≤ p.1 then s.refuse .outOfRange
    else { s with router := pairs.foldl Router.sample s.router }.accepted

def execControlSample (tag : Byte) (args : Option (List (Nat × Int))) (s : State) :
    Host.Outcome State Fault Refusal :=
  .next (s.accept 0x12#8 tag (serveControlSample args))

/-! ### SET ROUTE, channel form (R44, R45, R136) -/

/-- The refusal of a route's format (R44, R199): a kind the form does not carry, a PRESET byte that is
neither 0 nor 1, or a physical PRESET that names no lens channel. -/
def routeFormatOk (channel : Nat) : RouteArg → Bool
  | .rate _ | .position _ | .hold | .follow => true
  | .preset physical _ => physical == 0 || (physical == 1 && (lensChannelIndex channel).isSome)
  | .other _ => false

def controlIndex (k : Nat) : Option (Fin 12) := if h : k < 12 then some ⟨k, h⟩ else none

/-- R44: k lies in 0..11 for RATE and POSITION. -/
def routeInRange : RouteArg → Bool
  | .rate k | .position k => k < 12
  | .preset .. | .hold | .follow | .other _ => true

/-- R44, R136: the configured source a request makes, with whether an inverse map clamped; none where the
lens table it needs is missing. -/
def State.routeSource (s : State) (i : Fin 10) : RouteArg → Option (RouteSource × Bool)
  | .rate k => (controlIndex k).map fun k => (.rate k, false)
  | .position k => (controlIndex k).map fun k => (.position k, false)
  | .hold => some (.hold, false)
  | .follow => if i = focus ∧ s.lens.tables[1] ≠ [] then some (.follow, false) else none
  | .preset physical value =>
    if physical = 0 then some (.preset value none, false)
    else
      match lensIndex i with
      | none => none
      | some j =>
        if s.lens.tables[j] = [] then none
        else
          let (counts, beyond) := inverseMap s.lens.tables[j] value
          some (.preset counts (some value), beyond)
  | .other _ => none

/-- R44: the reply's fields: for a PRESET its counts, and BEYOND_TABLE with a physical one (R136), as a yes/no byte
after the counts, 0 where the value lies within the table (DESIGN CHOICE, log entry 28). -/
def routeReply (src : RouteSource) (beyond : Bool) : List Field :=
  match src with
  | .preset counts none => [i32 counts]
  | .preset counts (some _) => [i32 counts, flag beyond]
  | .rate _ | .position _ | .hold | .follow => []

/-- R44, R45: the configured source is taken; the active one with it, unless the Player holds the
channel. -/
def State.setRoute (i : Fin 10) (src : RouteSource) (s : State) : State :=
  let held := s.router.routes[i].held
  let s := { s with router := { s.router with
      routes := s.router.routes.set i { s.router.routes[i] with configured := src } } }
  if held then s else s.setActive i (.own src)

/-- SET ROUTE, channel form (R44), its checks in order. -/
def serveSetRoute (args : Option (Nat × RouteArg)) (s : State) : Served :=
  withPayload args s fun a =>
    if !routeFormatOk a.1 a.2 then s.refuse .badFormat
    else
      match channelIndex a.1 with
      | none => s.refuse .outOfRange
      | some i =>
        if !routeInRange a.2 then s.refuse .outOfRange
        else if s.saving then s.refuse .busy
        else
          match s.routeSource i a.2 with
          | none => s.refuse .noTable
          | some (src, beyond) => (s.setRoute i src).accepted (routeReply src beyond)

def execSetRoute (tag : Byte) (args : Option (Nat × RouteArg)) (s : State) :
    Host.Outcome State Fault Refusal :=
  .next (s.accept 0x10#8 tag (serveSetRoute args))

/-! ### SET ROUTE, router form (R50), and GET ROUTES (R47) -/

/-- SET ROUTE, router form (R50): the control timeout and the deadband. -/
def serveSetRouter (args : Option (Nat × Nat)) (s : State) : Served :=
  withPayload args s fun a =>
    if !(50 ≤ a.1 && a.1 ≤ 1000 && a.2 ≤ 2048) then s.refuse .outOfRange
    else if s.saving then s.refuse .busy
    else { s with router := { s.router with controlTimeout := a.1, deadband := a.2 } }.accepted

def execSetRouteRouterForm (tag : Byte) (args : Option (Nat × Nat)) (s : State) :
    Host.Outcome State Fault Refusal :=
  .next (s.accept 0x10#8 tag (serveSetRouter args))

/-- A source of R47: its kind and the parameters the kind has; a PRESET's counts, a yes/no byte and, where it
is physical, its value stand within the source (DESIGN CHOICE, log entry 28). -/
def RouteSource.fields : RouteSource → List Field
  | .rate k => [u8 0, u8 k.val]
  | .position k => [u8 1, u8 k.val]
  | .preset counts physical => [u8 2, i32 counts] ++
    match physical with
    | some v => [flag true, i32 v]
    | none => [flag false]
  | .hold => [u8 3]
  | .follow => [u8 4]

/-- An active source of R47. DESIGN CHOICE (log entry 28): the parameter 'set by the Player' of R43 is the frame-0
position in 32 bits for APPROACH, and TAKE carries none. -/
def ActiveSource.fields : ActiveSource → List Field
  | .own src => src.fields
  | .approach target => [u8 5, i32 target]
  | .take => [u8 6]

/-- The fields of R47. -/
def State.routeFields (s : State) : List Field :=
  s.router.routes.toList.flatMap (fun r => r.configured.fields ++ r.active.fields ++ [flag r.armed])
  ++ s.router.controls.toList.flatMap (fun c => [.num 2 c.value, u16 c.age, flag c.stale])
  ++ [u16 s.router.controlTimeout, u16 s.router.deadband, u16 s.controlTicks]

/-- GET ROUTES (R47). -/
def serveGetRoutes (args : Option Unit) (s : State) : Served :=
  withPayload args s fun _ => s.accepted s.routeFields

def execGetRoutes (tag : Byte) (args : Option Unit) (s : State) : Host.Outcome State Fault Refusal :=
  .next (s.accept 0x11#8 tag (serveGetRoutes args))

end Sys2Proof.Machine
end

