-- ==== Sys2Proof/Machine/Pose.lean ====
section
/-! DEFINITION. The Pose Unit (chapter 4): sine and cosine, head pose, head speed, SET GEOMETRY and GET
POSE. -/

namespace Sys2Proof.Machine

/-! ### Sine and cosine (R67, R68) -/

/-- R67: the quarter sine of an angle in 0..16384. -/
def quarterSine (q : Nat) : Nat :=
  let i := q / 64
  let low := sineTable.getD i 0
  if i = 256 then low else low + (sineTable.getD (i + 1) 0 - low) * (q % 64) / 64

/-- R68: an angle reduced modulo 65536. -/
def reduceAngle (a : Int) : Nat := (a % 65536).toNat

/-- R68: the sine of a reduced angle, by quadrant. -/
def sineOf (a : Nat) : Int :=
  let q := a % 16384
  match a / 16384 with
  | 0 => (quarterSine q : Int)
  | 1 => (quarterSine (16384 - q) : Int)
  | 2 => -(quarterSine q : Int)
  | _ => -(quarterSine (16384 - q) : Int)

def sine (a : Int) : Int := sineOf (reduceAngle a)
def cosine (a : Int) : Int := sineOf (reduceAngle (a + 16384))

/-- R69: a length times a sine or cosine. -/
def scaledProduct (length trig : Int) : Int := roundHalfAway (length * trig) 32768

/-! ### The pose (R66, R70) -/

/-- The unit values that a pose is formed from, by arm channel. -/
abbrev ArmUnits := Vector Int 4

/-- R66, R70: the kinematic inputs and the horizontal radius. -/
def kinematics (g : Geometry) (u : ArmUnits) : Kinematics :=
  let e := clampInt (-16384) 16384 u[2]
  let l : Int := max 0 (g.l0 + u[3])
  { t := u[0], s := reduceAngle u[1], e := e, l := l, r := scaledProduct l (cosine e) }

/-- R70: the head pose. -/
def headPose (g : Geometry) (u : ArmUnits) : Point3 :=
  let k := kinematics g u
  { x := clamp32 (g.x0 + k.t + scaledProduct k.r (cosine k.s))
    y := clamp32 (g.y0 + scaledProduct k.r (sine k.s))
    z := clamp32 (g.h + scaledProduct k.l (sine k.e)) }

/-- The unit value that an arm channel contributes: it is present, and has published one since it last became
present (R66). -/
def Channel.contribution (c : Channel) : Option Int :=
  if c.cfg.present && c.unitFresh then c.unitValue else none

def State.armContribution (s : State) (k : Fin 4) : Option Int :=
  (s.chans[k.val]'(by omega)).contribution

/-! ### Head speed (R71) -/

/-- R71: the sum of the absolute differences times the nominal tick rate, saturating. -/
def headSpeed (rate : Nat) (a b : Point3) : Int :=
  let sum := (b.x - a.x).natAbs + (b.y - a.y).natAbs + (b.z - a.z).natAbs
  ((min 2147483647 (sum * rate) : Nat) : Int)

/-- R71: the previous pose as this tick's difference takes it: none at the first tick after a reset, and
recomputed with the present input of every channel whose contribution has changed. -/
def previousHead (g : Geometry) (units : ArmUnits) (contributed : Vector Bool 4) (now : Point3) :
    Option PrevPose → Point3
  | none => now
  | some p =>
    if p.contributed = contributed then p.head
    else headPose g (Vector.ofFn fun k => if p.contributed[k] = contributed[k] then p.units[k] else units[k])

/-- The Pose Unit's work at a tick (R66, R70, R71). -/
def State.poseTick (s : State) : State :=
  let g := s.pose.geometry
  let contributed := Vector.ofFn fun k => (s.armContribution k).isSome
  let units : ArmUnits := Vector.ofFn fun k => (s.armContribution k).getD 0
  let head := headPose g units
  let before := previousHead g units contributed head s.pose.prev
  { s with pose :=
      { s.pose with
        head := head
        speed := headSpeed s.tb.tickRate before head
        kin := kinematics g units
        liftClamp := units[2] < -16384 || 16384 < units[2]
        reachClamp := g.l0 + units[3] < 0
        incomplete := contributed.toList.any (!·)
        contributed := contributed
        poseFrame := s.tb.frameNumber
        poseTick := s.tb.tickIndex
        prev := some ⟨head, units, contributed⟩ } }

/-! ### SET GEOMETRY and GET POSE (R65, R72) -/

/-- The ranges of the table of 4.1. -/
def checkGeometry (a : GeometryArgs) : Option Geometry :=
  if inRange (-1000000) 1000000 a.x0 && inRange (-1000000) 1000000 a.y0 && inRange 0 10000 a.h &&
      inRange 0 20000 a.l0 && inRange 1000 4000 a.crewCeiling then
    some ⟨a.x0, a.y0, a.h, a.l0, a.crewCeiling⟩
  else none

/-- R65: the record is replaced, and the previous pose recomputed under it. -/
def PoseUnit.setGeometry (g : Geometry) (p : PoseUnit) : PoseUnit :=
  { p with geometry := g, geometrySet := true
           prev := p.prev.map fun q => { q with head := headPose g q.units } }

/-- SET GEOMETRY (R65), its checks in order. -/
def serveSetGeometry (args : Option GeometryArgs) (s : State) : Served :=
  withPayload args s fun a =>
    match checkGeometry a with
    | none => s.refuse .outOfRange
    | some g =>
      if s.link.mode != .setup then s.refuse .wrongMode
      else if s.saving then s.refuse .busy
      else if s.store.locked then s.refuse .locked
      else { s with pose := s.pose.setGeometry g }.accepted

def execSetGeometry (tag : Byte) (args : Option GeometryArgs) (s : State) :
    Host.Outcome State Fault Refusal :=
  .next (s.accept 0x18#8 tag (serveSetGeometry args))

/-- The fields of R72. DESIGN CHOICE: whether each arm channel contributed goes out as one flag set (log entry 28),
and t, L and r as their low 32 bits (log entry 29). -/
def PoseUnit.fields (p : PoseUnit) : List Field :=
  [i32 p.head.x, i32 p.head.y, i32 p.head.z, i32 p.speed, u32 p.poseFrame, u8 p.poseTick,
    i32 p.kin.t, u16 p.kin.s.toNat, .num 2 p.kin.e, i32 p.kin.l, i32 p.kin.r,
    flags [p.liftClamp, p.reachClamp, p.incomplete], flags p.contributed.toList,
    i32 p.geometry.x0, i32 p.geometry.y0, i32 p.geometry.h, i32 p.geometry.l0,
    i32 p.geometry.crewCeiling, flag p.geometrySet]

/-- GET POSE (R72). -/
def serveGetPose (args : Option Unit) (s : State) : Served :=
  withPayload args s fun _ => s.accepted s.pose.fields

def execGetPose (tag : Byte) (args : Option Unit) (s : State) : Host.Outcome State Fault Refusal :=
  .next (s.accept 0x19#8 tag (serveGetPose args))

end Sys2Proof.Machine
end

