-- ==== Sys2Proof/Machine/Crew.lean ====
section
/-! DEFINITION. The Crew Tracker (5.3 to 5.6): the tag directory, the round end, the crew table, warm-up,
and the crew requests. -/

namespace Sys2Proof.Machine

/-! ### Entries (R79, R82) -/

/-- R79: an entry takes a role and a base radius. -/
def CrewEntry.rebase (role : Role) (base : Int) (e : CrewEntry) : CrewEntry :=
  { e with role := role, baseRadius := base
           radius := if e.state = .tracked then base else max e.radius base }

/-- The tag directory's entry for a tag id. -/
def CrewTracker.lookup (c : CrewTracker) (id : Nat) : Option TagEntry :=
  c.directory.find? fun t => t.tagId == id

/-- R82: the membership count after `n` entries have joined or left. -/
def CrewTracker.counted (n : Nat) (c : CrewTracker) : CrewTracker :=
  { c with membership := (c.membership + n) % 65536 }

/-! ### The round end (R83 to R87) -/

/-- R83: one sighting is preferred to another of its tag. -/
def Sighting.beats (a b : Sighting) : Bool :=
  b.quality < a.quality ||
  (a.quality == b.quality &&
    (b.locator < a.locator || (a.locator == b.locator && a.order < b.order)))

/-- R83: a sighting among those accepted so far: it takes the place of one of its tag that it beats. -/
def acceptSighting (accepted : List Sighting) (g : Sighting) : List Sighting :=
  if accepted.any fun h => h.tagId == g.tagId && !g.beats h then accepted
  else accepted.filter (fun h => h.tagId != g.tagId) ++ [g]

/-- R83: the accepted sightings, from those of a round in ascending locator index and answer order; none is
of the TEST entry's tag id (R88). -/
def acceptedSightings (minQuality : Nat) (all : List Sighting) : List Sighting :=
  (all.filter fun g => minQuality ≤ g.quality && g.tagId != 65535).foldl acceptSighting []

/-- R84: a seen entry. -/
def CrewEntry.seen (frame : Nat) (g : Sighting) (e : CrewEntry) : CrewEntry :=
  { e with state := .tracked, unseen := 0, radius := e.baseRadius, x := g.x, y := g.y
           quality := g.quality, locator := some g.locator, lastSeen := frame }

/-- R85: an unseen entry. -/
def CrewEntry.missed (p : TrackerParams) (e : CrewEntry) : CrewEntry :=
  let n := bump 65535 e.unseen
  let grown := min p.lostCap (e.radius + p.growth)
  if n < p.staleAfter then { e with unseen := n, state := .tracked }
  else { e with unseen := n, radius := grown, state := if n < p.lostAfter then .stale else .lost }

/-- R84, R85, R88: an entry at a round end; the TEST entry is passed over. -/
def CrewEntry.atRoundEnd (p : TrackerParams) (frame : Nat) (accepted : List Sighting) (e : CrewEntry) :
    CrewEntry :=
  match accepted.find? fun g => g.tagId == e.tagId with
  | some g => e.seen frame g
  | none => if e.role = .test then e else e.missed p

/-- R86: a point lies inside a zone. -/
def Zone.holds (z : Zone) (x y : Int) : Bool := z.xmin ≤ x && x ≤ z.xmax && z.ymin ≤ y && y ≤ z.ymax

/-- R86: an active EXIT zone covers a LOST entry. -/
def Governor.exits (g : Governor) (e : CrewEntry) : Bool :=
  e.state == .lost && g.zones.toList.any fun z => z.kind == .exit && z.active g.guardState && z.holds e.x e.y

/-- R87: the entry of a new tag. -/
def CrewTracker.newEntry (c : CrewTracker) (frame : Nat) (g : Sighting) : CrewEntry :=
  let (role, base) := match c.lookup g.tagId with
    | some t => (t.role, t.baseRadius)
    | none => (.crew, c.params.defaultRadius)
  { tagId := g.tagId, role := role, x := g.x, y := g.y, baseRadius := base, radius := base
    quality := g.quality, locator := some g.locator, firstSeen := frame, lastSeen := frame
    unseen := 0, state := .tracked }

/-- The table is compared by the fields a report follows: tag ids and states (R91). -/
def CrewTracker.outline (c : CrewTracker) : List (Nat × CrewState) := c.table.map fun e => (e.tagId, e.state)

/-- R83 to R87: the crew table after a round, and the CREW_OVERFLOW flag. -/
def CrewTracker.roundEnd (gov : Governor) (frame : Nat) (sightings : List Sighting) (c : CrewTracker) :
    CrewTracker :=
  let accepted := acceptedSightings c.params.minQuality sightings
  let isNew (g : Sighting) : Bool := !c.table.any fun e => e.tagId == g.tagId
  let updated := c.table.map (CrewEntry.atRoundEnd c.params frame accepted)
  let kept := updated.filter fun e => !gov.exits e
  let newTags := accepted.filter isNew
  let joining := newTags.take (24 - kept.length)
  { c with table := kept ++ joining.map (c.newEntry frame)
           overflow := joining.length < newTags.length
           roundFrame := frame }.counted (updated.length - kept.length + joining.length)

/-- R92: every configured, non-optional locator has been online. -/
def LocatorBus.allBeenOnline (b : LocatorBus) : Bool :=
  b.locators.toList.all fun l => !l.required || l.beenOnline

/-- R92: the warm-up test of a round end. -/
def State.warmUpTest (s : State) : State :=
  if s.crew.warmUp && s.link.mode != .starting && s.bus.allBeenOnline then
    { s with crew := { s.crew with warmUp := false } }.raise .crew
  else s

/-- R87, R107: CREW_OVERFLOW as published at a round end, at the Governor. -/
def State.syncOverflow (s : State) : State :=
  if s.crew.overflow then s.joinLatch .crewOverflow none else s.leaveLatch .crewOverflow

/-- A round end (5.4, 5.5). -/
def State.endRound (frame : Nat) (sightings : List Sighting) (s : State) : State :=
  let crew := s.crew.roundEnd s.gov frame sightings
  ({ s with crew := crew }.raiseIf
    (crew.outline != s.crew.outline || crew.overflow != s.crew.overflow) .crew).syncOverflow.warmUpTest

/-! ### The TEST entry (R88) -/

/-- R88, R124: the TEST entry joins at the end of the table. Its quality, which no sighting gave, is 0 (DESIGN
CHOICE, log entry 25). -/
def State.placeTest (x y : Int) (s : State) : State :=
  let r := s.crew.params.defaultRadius
  let e : CrewEntry :=
    { tagId := 65535, role := .test, x := x, y := y, baseRadius := r, radius := r, quality := 0
      locator := none, firstSeen := s.tb.frameNumber, lastSeen := s.tb.frameNumber, unseen := 0
      state := .tracked }
  { s with crew := { s.crew with table := s.crew.table ++ [e] }.counted 1 }.raise .crew

/-- R126: the TEST entry is removed. -/
def State.removeTest (s : State) : State :=
  let table := s.crew.table.filter fun e => e.role != .test
  { s with crew := { s.crew with table := table }.counted (s.crew.table.length - table.length) }.raise .crew

/-! ### SET TAG and REMOVE TAG (R79 to R81) -/

/-- The role that SET TAG's code names (R79). -/
def roleOf : Nat → Option Role
  | 0 => some .crew
  | 1 => some .talent
  | 2 => some .equipment
  | _ => none

/-- An entry is put in a list kept in ascending order of tag id, replacing one of its tag id. -/
def insertTag (t : TagEntry) : List TagEntry → List TagEntry
  | [] => [t]
  | u :: us =>
    if t.tagId < u.tagId then t :: u :: us
    else if t.tagId = u.tagId then t :: us
    else u :: insertTag t us

/-- The directory that entries make when each is added in turn, as SET TAG adds them (R79). -/
def directoryOf (entries : List TagEntry) : List TagEntry := entries.foldl (fun d t => insertTag t d) []

/-- R79: the directory takes an entry, and a crew entry of that tag id takes its role and radius. -/
def CrewTracker.setTag (t : TagEntry) (c : CrewTracker) : CrewTracker :=
  { c with directory := insertTag t c.directory
           table := c.table.map fun e => if e.tagId = t.tagId then e.rebase t.role t.baseRadius else e }

/-- SET TAG, tag form (R79), its checks in order. -/
def serveSetTag (args : Option TagArgs) (s : State) : Served :=
  withPayload args s fun a =>
    match roleOf a.role with
    | none => s.refuse .badFormat
    | some role =>
      if !(1 ≤ a.tagId && a.tagId ≤ 65534 && inRange 100 3000 a.baseRadius) then s.refuse .outOfRange
      else if s.saving then s.refuse .busy
      else if s.store.locked then s.refuse .locked
      else if (s.crew.lookup a.tagId).isNone && 64 ≤ s.crew.directory.length then s.refuse .noSpace
      else { s with crew := s.crew.setTag ⟨a.tagId, role, a.baseRadius⟩ }.accepted

def execSetTag (tag : Byte) (args : Option TagArgs) (s : State) : Host.Outcome State Fault Refusal :=
  .next (s.accept 0x21#8 tag (serveSetTag args))

/-- The ranges of the table of R81. -/
def checkTracker (a : TrackerArgs) : Option TrackerParams :=
  if a.minQuality ≤ 15 && 1 ≤ a.staleAfter && a.staleAfter ≤ 10 && 10 ≤ a.lostAfter && a.lostAfter ≤ 500 &&
      a.staleAfter ≤ a.lostAfter && inRange 0 500 a.growth && inRange 3000 10000 a.lostCap &&
      inRange 100 3000 a.defaultRadius then
    some ⟨a.minQuality, a.staleAfter, a.lostAfter, a.growth, a.lostCap, a.defaultRadius⟩
  else none

/-- R81: the six values at once; entries outside the directory take the new default radius, and a radius
above the new lost cap is brought to it. -/
def CrewTracker.setParams (p : TrackerParams) (c : CrewTracker) : CrewTracker :=
  let adjust (e : CrewEntry) : CrewEntry :=
    let e := if (c.lookup e.tagId).isNone then e.rebase e.role p.defaultRadius else e
    { e with radius := min p.lostCap e.radius }
  { c with params := p, table := c.table.map adjust }

/-- SET TAG, tracker form (R81), its checks in order. -/
def serveSetTracker (args : Option TrackerArgs) (s : State) : Served :=
  withPayload args s fun a =>
    match checkTracker a with
    | none => s.refuse .outOfRange
    | some p =>
      if s.saving then s.refuse .busy
      else if s.store.locked then s.refuse .locked
      else { s with crew := s.crew.setParams p }.accepted

def execSetTagTrackerForm (tag : Byte) (args : Option TrackerArgs) (s : State) :
    Host.Outcome State Fault Refusal :=
  .next (s.accept 0x21#8 tag (serveSetTracker args))

/-- R80: the directory entry goes; a crew entry of its tag id becomes CREW at the default radius. -/
def CrewTracker.removeTag (id : Nat) (c : CrewTracker) : CrewTracker :=
  { c with directory := c.directory.filter fun t => t.tagId != id
           table := c.table.map fun e =>
             if e.tagId = id then e.rebase .crew c.params.defaultRadius else e }

/-- REMOVE TAG (R80), its checks in order. -/
def serveRemoveTag (args : Option Nat) (s : State) : Served :=
  withPayload args s fun id =>
    if !(1 ≤ id && id ≤ 65534) then s.refuse .outOfRange
    else if s.saving then s.refuse .busy
    else if s.store.locked then s.refuse .locked
    else if (s.crew.lookup id).isNone then s.refuse .notFound
    else { s with crew := s.crew.removeTag id }.accepted

def execRemoveTag (tag : Byte) (args : Option Nat) (s : State) : Host.Outcome State Fault Refusal :=
  .next (s.accept 0x22#8 tag (serveRemoveTag args))

/-! ### GET CREW (R90) -/

def CrewEntry.fields (e : CrewEntry) : List Field :=
  [u16 e.tagId, u8 e.role.ctorIdx, i32 e.x, i32 e.y, i32 e.baseRadius, i32 e.radius, u8 e.quality,
    natOpt 1 e.locator, u32 e.firstSeen, u32 e.lastSeen, u16 e.unseen, u8 e.state.ctorIdx]

def Locator.configFields (l : Locator) : List Field :=
  [flag l.configured, u8 l.address, flag l.optional, u16 l.window]

/-- The entry's fields of R90. DESIGN CHOICE (log entry 28): the miss history goes out as one flag byte, oldest result
in bit 0, in which a set bit is a good result and a clear one a miss. -/
def Locator.fields (l : Locator) : List Field :=
  l.configFields ++ [u8 l.link.ctorIdx, flags l.history.toList, u8 l.misses, u16 l.crcErrors,
    flag l.degraded, flag l.beenOnline]

def TagEntry.fields (t : TagEntry) : List Field := [u16 t.tagId, u8 t.role.ctorIdx, i32 t.baseRadius]

/-- The six tracker parameters at the widths of SET TAG, stale after in 16 bits (DESIGN CHOICE, log entry 7). -/
def TrackerParams.fields (p : TrackerParams) : List Field :=
  [u8 p.minQuality, u16 p.staleAfter, u16 p.lostAfter, i32 p.growth, i32 p.lostCap, i32 p.defaultRadius]

/-- Some entries of a list, from a start index. -/
def page {α : Type} (start count : Nat) (list : List α) : List α := (list.drop start).take count

/-- The largest start index of each part of GET CREW (R90). -/
def crewPartTop : Nat → Option Nat
  | 0 => some 23
  | 1 => some 0
  | 2 => some 63
  | 3 => some 0
  | _ => none

/-- The fields of a part (R90). -/
def State.crewPart (s : State) (part start : Nat) : List Field :=
  (match part with
    | 0 => u8 s.crew.table.length :: (page start 7 s.crew.table).flatMap CrewEntry.fields
    | 1 => s.bus.locators.toList.flatMap Locator.fields
    | 2 => u8 s.crew.directory.length :: (page start 16 s.crew.directory).flatMap TagEntry.fields
    | _ => s.crew.params.fields ++ [flag s.crew.overflow, flag s.crew.warmUp, u8 (s.crew.count .tracked),
        u8 (s.crew.count .stale), u8 (s.crew.count .lost)])
  ++ [u16 s.crew.membership, u32 s.crew.roundFrame]

/-- GET CREW (R90). -/
def serveGetCrew (args : Option PartArgs) (s : State) : Served :=
  withPayload args s fun a =>
    match crewPartTop a.part with
    | none => s.refuse .badFormat
    | some top => if top < a.start then s.refuse .outOfRange else s.accepted (s.crewPart a.part a.start)

def execGetCrew (tag : Byte) (args : Option PartArgs) (s : State) : Host.Outcome State Fault Refusal :=
  .next (s.accept 0x23#8 tag (serveGetCrew args))

/-! ### CLEAR CREW (R89) -/

/-- The entries that satisfy a test leave the table. -/
def CrewTracker.drop (p : CrewEntry → Bool) (c : CrewTracker) : CrewTracker :=
  { c with table := c.table.filter fun e => !p e }.counted (c.table.filter p).length

/-- CLEAR CREW (R89): a tag id, or 0 for ALL_LOST (R199). -/
def serveClearCrew (args : Option Nat) (s : State) : Served :=
  withPayload args s fun id =>
    if id = 0 then
      let n := s.crew.count .lost
      ({ s with crew := s.crew.drop fun e => e.state == CrewState.lost }.raiseIf (n != 0) .crew).accepted [u8 n]
    else
      match s.crew.table.find? fun e => e.tagId == id with
      | none => s.refuse .notFound
      | some e =>
        if e.state ≠ CrewState.lost then s.refuse .wrongState
        else ({ s with crew := s.crew.drop fun e => e.tagId == id }.raise .crew).accepted

def execClearCrew (tag : Byte) (args : Option Nat) (s : State) : Host.Outcome State Fault Refusal :=
  .next (s.accept 0x24#8 tag (serveClearCrew args))

end Sys2Proof.Machine
end

