-- ==== Sys2Proof/Machine/Locators.lean ====
section
/-! DEFINITION. The Locator Bus Controller (5.1, 5.2): poll rounds, answers, link states and SET
LOCATOR. -/

namespace Sys2Proof.Machine

/-! ### Answers (R77, R201) -/

/-- What a slot brings (R77). -/
inductive SlotResult where
  | good (status : Byte) (sightings : List Sighting)
  | crcMiss
  | miss
  deriving DecidableEq, Repr

/-- R201: an answer is complete when its length byte, L further bytes and two check bytes have arrived. -/
def answerComplete : List Byte → Bool
  | [] => false
  | l :: rest => l.toNat + 2 ≤ rest.length

/-- The eleven bytes of a sighting (12.3). -/
def parseSighting (locator order : Nat) (b : List Byte) : Sighting where
  tagId := leNat (b.take 2)
  x := toSigned 4 (leNat ((b.drop 2).take 4))
  y := toSigned 4 (leNat ((b.drop 6).take 4))
  quality := leNat ((b.drop 10).take 1)
  locator := locator
  order := order

/-- R77, R201: the judgement of a complete answer, its check bytes first. -/
def judgeAnswer (address locator : Nat) (b : List Byte) : SlotResult :=
  let l := (b.getD 0 0).toNat
  let covered := b.take (l + 1)
  let id := (covered.getD 1 0).toNat
  let count := (covered.getD 3 0).toNat
  let sightings := (List.range (min 4 count)).map fun j =>
    parseSighting locator j ((covered.drop (4 + 11 * j)).take 11)
  if leNat ((b.drop (l + 1)).take 2) ≠ (crc16 covered).toNat then .crcMiss
  else if l ≠ 3 + 11 * count || id ≠ address || 4 < count || sightings.any fun g => 16 ≤ g.quality then .miss
  else .good (covered.getD 2 0) (sightings.filter fun g => g.tagId != 0 && g.tagId != 65535)

/-- A status byte: 0 OK, 1 DEGRADED (12.3). -/
def statusDegraded (b : Byte) : Bool :=
  if b = 0#8 then false else if b = 1#8 then true else Config.locatorStatusDegraded b

/-! ### Link states (R78) -/

def pushResult (h : Vector Bool 8) (good : Bool) : Vector Bool 8 :=
  #v[h[1], h[2], h[3], h[4], h[5], h[6], h[7], good]

/-- The last four results are good. -/
def lastFourGood (h : Vector Bool 8) : Bool := h[4] && h[5] && h[6] && h[7]

/-- How many of the last four results are misses. -/
def lastFourMisses (h : Vector Bool 8) : Nat := ([h[4], h[5], h[6], h[7]].filter (!·)).length

/-- R78: the link state after a result, from the history and the miss count with the result in them. -/
def LinkState.next (l : LinkState) (history : Vector Bool 8) (misses : Nat) : LinkState :=
  match l with
  | .searching | .missing =>
    if lastFourGood history then .online else if 8 ≤ misses then .offline else l
  | .online => if 2 ≤ lastFourMisses history then .missing else .online
  | .offline => if lastFourGood history then .online else .offline
  | .absent => .absent

/-- R78: a result enters an entry. -/
def Locator.enter (good : Bool) (l : Locator) : Locator :=
  let history := pushResult l.history good
  let misses := if good then 0 else bump 255 l.misses
  let link := l.link.next history misses
  { l with history := history, misses := misses, link := link
           beenOnline := l.beenOnline || link == .online }

/-- R77, R78: the end of an entry's slot. -/
def Locator.slotEnd (r : SlotResult) (l : Locator) : Locator :=
  match r with
  | .good status _ => { l with degraded := statusDegraded status }.enter true
  | .crcMiss => { l with crcErrors := bump 1023 l.crcErrors }.enter false
  | .miss => l.enter false

def SlotResult.sightings : SlotResult → List Sighting
  | .good _ list => list
  | .crcMiss | .miss => []

/-! ### Rounds (R76) -/

/-- R76: the next slot goes to the first configured entry to come; without one the round ends. DESIGN CHOICE (log
entry 25): an entry to come that is not configured when a slot begins, at the round's start or later, is out of the
round for good, so one that SET LOCATOR configures in a running round is polled from the next round on. -/
def State.nextSlot (frame : Nat) (toCome : List (Fin 8)) (sightings : List Sighting) (s : State) : State :=
  match toCome.filter fun i => s.bus.locators[i].configured with
  | i :: rest =>
    let next : Round :=
      { frame := frame, current := i, address := s.bus.locators[i].address, answering := false
        discard := false, toCome := rest, sightings := sightings }
    { s with bus := { s.bus with round := some next } }
  | [] => { s with bus := { s.bus with round := none } }.endRound frame sightings

/-- R76: a frame boundary begins a round while none runs. -/
def State.startRound (s : State) : State :=
  match s.bus.round with
  | some _ => s
  | none => s.nextSlot s.tb.frameNumber (List.finRange 8) []

/-- An entry's link state or last status has changed (R91). -/
def Locator.reportDue (before after : Locator) : Bool :=
  before.link != after.link || before.degraded != after.degraded

/-- A locator entry changes: its CREW report, and the Governor's caps and cause (R91, R105, R107). -/
def State.putLocator (i : Fin 8) (l : Locator) (report : Bool) (s : State) : State :=
  ({ s with bus := { s.bus with locators := s.bus.locators.set i l } }.raiseIf report
    .crew).enforceCaps.syncOffline

/-- The end of the slot in progress (R76 to R78); a discarded slot leaves no result (R75). DESIGN CHOICE (log entry 25):
of a discarded slot's answer nothing is judged, so check bytes that do not agree do not raise the CRC error count.
DEDUCED (log entry 11): LOCATOR_OFFLINE, of the slot, comes before CREW_OVERFLOW, of the round that ends with it. -/
def State.endSlot (r : Round) (result : SlotResult) (s : State) : State :=
  if r.discard then s.nextSlot r.frame r.toCome r.sightings
  else
    let before := s.bus.locators[r.current]
    let after := before.slotEnd result
    (s.putLocator r.current after (before.reportDue after)).nextSlot r.frame r.toCome
      (r.sightings ++ result.sightings)

/-- R76, 12.3: the poll of an address: the address, then the CRC-16 over it, low byte first (R198, R199). -/
def pollFrame (address : Nat) : List Byte :=
  let covered := leBytes 1 address
  covered ++ leBytes 2 (crc16 covered).toNat

/-- R76: the 760 drives the pair: a slot runs and its poll has not ended. -/
def LocatorBus.driven (b : LocatorBus) : Bool :=
  match b.round with
  | some r => !r.answering
  | none => false

/-- R76: the bytes of the poll being sent, which carries the address of the slot's entry; nothing while the
pair is released. -/
def LocatorBus.poll (b : LocatorBus) : List Byte :=
  match b.round with
  | some r => if r.answering then [] else pollFrame r.address
  | none => []

/-- The round whose answer window is open, if any. -/
def LocatorBus.window (b : LocatorBus) : Option Round :=
  match b.round with
  | some r => if r.answering then some r else none
  | none => none

/-- R76: the poll has been sent; the pair is released, and the answer window opens. -/
def LocatorBus.pollSent (b : LocatorBus) : LocatorBus :=
  { b with round := b.round.map fun r => { r with answering := true } }

/-- POLL_SENT (R76). -/
def execPollSent (s : State) : Host.Outcome State Fault Refusal :=
  .next { s with bus := s.bus.pollSent }.settle

/-- R77: bytes in an answer window; what is no complete answer, and what arrives outside a window, changes
nothing. -/
def State.answer (bytes : List Byte) (s : State) : State :=
  match s.bus.window with
  | some r =>
    if answerComplete bytes then
      s.endSlot r (judgeAnswer r.address r.current.val bytes)
    else s
  | none => s

/-- LOCATOR_ANSWER (R77). -/
def execLocatorAnswer (bytes : List Byte) (s : State) : Host.Outcome State Fault Refusal :=
  .next (s.answer bytes).settle

/-- R77: the window closes without a complete answer. -/
def State.answerWindowClose (s : State) : State :=
  match s.bus.window with
  | some r => s.endSlot r .miss
  | none => s

/-- LOCATOR_ANSWER_WINDOW_CLOSE (R77). -/
def execLocatorAnswerWindowClose (s : State) : Host.Outcome State Fault Refusal :=
  .next s.answerWindowClose.settle

/-! ### SET LOCATOR (R75) -/

/-- R75: an entry restarted under its configured fields. -/
def Locator.restart (configured : Bool) (address : Nat) (optional : Bool) (window : Nat) (l : Locator) :
    Locator :=
  { configured := configured, address := address, optional := optional, window := window
    link := if configured then .searching else .absent
    history := Vector.replicate 8 false, misses := 0, crcErrors := l.crcErrors, degraded := false
    beenOnline := false }

/-- R75: the slot running for an entry has its result discarded. -/
def LocatorBus.discardSlot (i : Fin 8) (b : LocatorBus) : LocatorBus :=
  { b with round := b.round.map fun r => if r.current = i then { r with discard := true } else r }

/-- R75, R91: an accepted SET LOCATOR. DESIGN CHOICE (log entry 25): one that takes the last status from DEGRADED to OK
and leaves the link state as it was queues no CREW report. -/
def State.setLocator (i : Fin 8) (l : Locator) (s : State) : State :=
  { s with bus := s.bus.discardSlot i }.putLocator i l (s.bus.locators[i].link != l.link)

/-- R75: another configured entry has the address. -/
def LocatorBus.addressTaken (b : LocatorBus) (i : Fin 8) (address : Nat) : Bool :=
  (List.finRange 8).any fun j => j != i && b.locators[j].configured && b.locators[j].address == address

def locatorIndex (n : Nat) : Option (Fin 8) := if h : n < 8 then some ⟨n, h⟩ else none

/-- SET LOCATOR (R75), its checks in order. -/
def serveSetLocator (args : Option LocatorArgs) (s : State) : Served :=
  withPayload args s fun a =>
    match yesNo a.configured, yesNo a.optional with
    | some configured, some optional =>
      match locatorIndex a.index with
      | none => s.refuse .outOfRange
      | some i =>
        if !(1 ≤ a.address && a.address ≤ 254 && 400 ≤ a.window && a.window ≤ 1800) then
          s.refuse .outOfRange
        else if s.link.mode != .setup then s.refuse .wrongMode
        else if s.saving then s.refuse .busy
        else if s.store.locked then s.refuse .locked
        else if configured && s.bus.addressTaken i a.address then s.refuse .occupied
        else (s.setLocator i (s.bus.locators[i].restart configured a.address optional a.window)).accepted
    | _, _ => s.refuse .badFormat

def execSetLocator (tag : Byte) (args : Option LocatorArgs) (s : State) :
    Host.Outcome State Fault Refusal :=
  .next (s.accept 0x20#8 tag (serveSetLocator args))

end Sys2Proof.Machine
end

