-- ==== Sys2Proof/Machine/Governor.lean ====
section
/-! DEFINITION. The Separation Governor (chapter 6): guard inputs, the governor computation, the scale, the
latch at the tick, SET ZONE, SET GOVERNOR and RESUME. -/

namespace Sys2Proof.Machine

/-! ### Guard inputs (R96) -/

/-- R96, R121: a debounced state takes a level that this sample and the one before both show. -/
def debounce (state before now : Bool) : Bool := if before = now then now else state

/-- R96: the guard inputs sampled at a tick. -/
def State.guardTick (open_ : Vector Bool 8) (s : State) : State :=
  let state := Vector.ofFn fun g => debounce s.gov.guardState[g] s.gov.guardSample[g] open_[g]
  { s with gov := { s.gov with guardSample := open_, guardState := state } }.raiseIf
    (state != s.gov.guardState) .safety

/-! ### The computation (R98 to R104) -/

/-- R99: the braking distance. -/
def brakingDistance (v a : Int) : Nat := ceilDiv (v * v).toNat (2 * a.toNat)

/-- R100: the plan distance of an offset. -/
def planDistance (dx dy : Int) : Nat :=
  (15 * max dx.natAbs dy.natAbs + 5 * min dx.natAbs dy.natAbs) / 16

/-- R101: the margin of a crew entry. -/
def crewMargin (head : Point3) (ceiling clearance : Int) (e : CrewEntry) : Int :=
  max ((planDistance (head.x - e.x) (head.y - e.y) : Int) - e.radius - clearance)
    (head.z - ceiling - clearance)

/-- R102: the margin of a KEEP_OUT zone. -/
def zoneMargin (head : Point3) (z : Zone) : Int :=
  let dx := max (z.xmin - head.x) (max 0 (head.x - z.xmax))
  let dy := max (z.ymin - head.y) (max 0 (head.y - z.ymax))
  max ((planDistance dx dy : Int) - z.clearance) (head.z - z.ceiling - z.clearance)

/-- An item of a tick, with its effective margin (R98). -/
structure Item where
  name : LatchItem
  margin : Int
  deriving DecidableEq, Repr

/-- R103: the per-item scale of an effective margin. -/
def itemScale (p : GovernorParams) (margin : Int) : Nat :=
  if p.slowBand ≤ margin then 1024
  else if 0 < margin then max p.creep (1024 * margin.toNat / p.slowBand.toNat)
  else 0

/-- R98, R101: the crew entries as items, in table order. -/
def State.crewItems (b : Nat) (s : State) : List Item :=
  s.crew.table.map fun e =>
    ⟨.tag e.tagId, crewMargin s.pose.head s.pose.geometry.crewCeiling s.gov.params.clearance e - b⟩

/-- R98, R102: the active KEEP_OUT zones as items, in index order. -/
def State.zoneItems (b : Nat) (s : State) : List Item :=
  ((List.finRange 16).filter fun i =>
    s.gov.zones[i].kind == .keepOut && s.gov.zones[i].active s.gov.guardState).map fun i =>
      ⟨.zone i.val, zoneMargin s.pose.head s.gov.zones[i] - b⟩

/-- R104: of two items the limiting one; the first on equality. -/
def Item.limiting (p : GovernorParams) (a b : Item) : Item :=
  if itemScale p b.margin < itemScale p a.margin ∨
      (itemScale p b.margin = itemScale p a.margin ∧ b.margin < a.margin) then b else a

/-- R104: the limiting item of a tick. -/
def limitingItem (p : GovernorParams) : List Item → Option Item
  | [] => none
  | i :: rest => some (rest.foldl (Item.limiting p) i)

/-- R104: the target before the caps. -/
def openTarget (p : GovernorParams) (limiting : Option Item) : Nat :=
  match limiting with
  | some i => itemScale p i.margin
  | none => 1024

/-- R104: the target, cut by the caps that stand and by the latch. -/
def State.cappedTarget (t : Nat) (s : State) : Nat :=
  if s.gov.latch.isSet then 0 else if s.capStands then min t s.gov.params.creep else t

/-- R104: the caps that cut a target. -/
def State.cuttingCaps (t : Nat) (s : State) : Caps where
  mode := s.link.mode != .operate && s.gov.params.creep < t
  warmUp := s.crew.warmUp && s.gov.params.creep < t
  locator := s.bus.caps && s.gov.params.creep < t
  latch := s.gov.latch.isSet && 0 < t

/-- R105: the new scale. -/
def nextScale (rise scale target : Nat) : Nat :=
  if target < scale then target else min target (scale + rise)

/-- R103, R107: an item whose effective margin is used up joins GOVERNOR to the cause set. -/
def State.latchOn (limiting : Option Item) (s : State) : State :=
  match limiting with
  | some i => if i.margin ≤ 0 then s.joinLatch .governor (some i.name) else s
  | none => s

/-- R104 to R106, R108: what the Governor publishes at a tick from its items. -/
def Governor.publish (limiting : Option Item) (braking near target scale : Nat) (caps : Caps)
    (g : Governor) : Governor :=
  let marginsReady := match limiting with
    | some i => g.params.slowBand / 4 ≤ i.margin
    | none => true
  let ready := marginsReady && !g.latch.crewOverflow && !g.latch.locatorOffline
  { g with
    scale := scale, target := target, caps := caps, braking := braking, near := near
    limiting := limiting.map fun i => (i.name, i.margin)
    marginsReady := marginsReady, releaseReady := ready
    latch := { g.latch with releaseHeld := g.latch.releaseHeld && ready }
    figures :=
      { minScale := min g.figures.minScale scale, near := max g.figures.near near
        governed := g.figures.governed || scale < 1024 } }

/-- The governor computation of a tick (R98 to R108). -/
def State.governorCompute (s : State) : State :=
  let b := brakingDistance s.pose.speed s.gov.params.decel
  let crew := s.crewItems b
  let limiting := limitingItem s.gov.params (crew ++ s.zoneItems b)
  let near := (crew.filter fun i => i.margin < s.gov.params.slowBand).length
  let s := s.latchOn limiting
  let t := openTarget s.gov.params limiting
  let target := s.cappedTarget t
  let scale := nextScale s.gov.params.scaleRise s.gov.scale target
  { s with gov := s.gov.publish limiting b near target scale (s.cuttingCaps t) }

/-! ### The boundary (R106, R108, R109) -/

/-- R106: the figures of the frame just ended are published and new ones begun; after a reset the first
frame's figures begin with the scale at 0. -/
def State.turnFigures (s : State) : State :=
  { s with gov := { s.gov with published := s.gov.figures
                               figures := ⟨if s.stop.sampled then 1024 else 0, 0, false⟩ } }

/-- R109: auto-resume judges the frame just ended. -/
def State.autoResume (s : State) : State :=
  if s.gov.params.autoResume && s.gov.latch.isSet && s.gov.latch.releaseHeld then s.releaseLatch else s

/-- R108: the release-held flag is set afresh at a boundary. -/
def State.holdRelease (s : State) : State :=
  { s with gov := { s.gov with latch := { s.gov.latch with releaseHeld := true } } }

/-- The Governor's work at a tick, and at a boundary (chapter 6). -/
def State.governorTick (open_ : Vector Bool 8) (boundary : Bool) (s : State) : State :=
  let s := s.guardTick open_
  (if boundary then s.autoResume.holdRelease else s).governorCompute

/-! ### SET ZONE (R95) -/

def zoneKindOf : Nat → Option ZoneKind
  | 0 => some .keepOut
  | 1 => some .exit
  | _ => none

/-- R95: the format of a zone's kind and activation. -/
def zoneFormatOk (a : ZoneArgs) : Bool := (zoneKindOf a.kind).isSome && a.activation ≤ 2

/-- The activation that a code and a guard index give; the index counts for GUARD alone. -/
def activationOf (code guard_ : Nat) : Option Activation :=
  match code with
  | 0 => some .always
  | 1 => if h : guard_ < 8 then some (.guard ⟨guard_, h⟩) else none
  | 2 => some .off
  | _ => none

/-- The ranges of the table of 6.1. -/
def checkZone (a : ZoneArgs) : Option Zone :=
  match zoneKindOf a.kind, activationOf a.activation a.guard with
  | some kind, some activation =>
    if inRange (-1000000) 1000000 a.xmin && inRange (-1000000) 1000000 a.xmax &&
        inRange (-1000000) 1000000 a.ymin && inRange (-1000000) 1000000 a.ymax &&
        a.xmin ≤ a.xmax && a.ymin ≤ a.ymax && inRange 0 20000 a.ceiling &&
        inRange 0 5000 a.clearance then
      some ⟨kind, a.xmin, a.xmax, a.ymin, a.ymax, a.ceiling, a.clearance, activation⟩
    else none
  | _, _ => none

def zoneIndex (n : Nat) : Option (Fin 16) := if h : n < 16 then some ⟨n, h⟩ else none

/-- SET ZONE (R95), its checks in order. -/
def serveSetZone (args : Option (Nat × ZoneArgs)) (s : State) : Served :=
  withPayload args s fun a =>
    if !zoneFormatOk a.2 then s.refuse .badFormat
    else
      match zoneIndex a.1, checkZone a.2 with
      | some i, some z =>
        if s.link.mode != .setup then s.refuse .wrongMode
        else if s.saving then s.refuse .busy
        else if s.store.locked then s.refuse .locked
        else { s with gov := { s.gov with zones := s.gov.zones.set i z } }.accepted
      | _, _ => s.refuse .outOfRange

def execSetZone (tag : Byte) (args : Option (Nat × ZoneArgs)) (s : State) :
    Host.Outcome State Fault Refusal :=
  .next (s.accept 0x28#8 tag (serveSetZone args))

/-! ### SET GOVERNOR, governor form (R97) -/

/-- The ranges of the table of 6.3. -/
def checkGovernor (a : GovernorArgs) (autoResume : Bool) : Option GovernorParams :=
  if inRange 300 5000 a.clearance && inRange 500 10000 a.slowBand && inRange 200 5000 a.decel &&
      a.creep ≤ 256 && 1 ≤ a.scaleRise && a.scaleRise ≤ 1024 then
    some ⟨a.clearance, a.slowBand, a.decel, a.creep, a.scaleRise, autoResume⟩
  else none

/-- R97, R105: the parameters are taken, and a lowered creep lowers a capped scale at once. -/
def State.setGovernor (p : GovernorParams) (s : State) : State :=
  { s with gov := { s.gov with params := p } }.enforceCaps

/-- SET GOVERNOR, governor form (R97), its checks in order. -/
def serveSetGovernor (args : Option GovernorArgs) (s : State) : Served :=
  withPayload args s fun a =>
    match yesNo a.autoResume with
    | none => s.refuse .badFormat
    | some auto =>
      match checkGovernor a auto with
      | none => s.refuse .outOfRange
      | some p =>
        if s.saving then s.refuse .busy
        else if s.store.locked then s.refuse .locked
        else (s.setGovernor p).accepted

def execSetGovernor (tag : Byte) (args : Option GovernorArgs) (s : State) :
    Host.Outcome State Fault Refusal :=
  .next (s.accept 0x29#8 tag (serveSetGovernor args))

/-! ### RESUME (R110) -/

def Latch.causeField (l : Latch) : Field := flags [l.governor, l.crewOverflow, l.locatorOffline]

/-- The limiting item of the most recent tick with its effective margin; one beyond 32 bits goes out as its low 32
bits (DESIGN CHOICE, log entry 29). -/
def Governor.limitingFields (g : Governor) : List Field :=
  itemFields (g.limiting.map Prod.fst) ++ [optField 4 (g.limiting.map Prod.snd)]

/-- RESUME (R110). -/
def serveResume (args : Option Unit) (s : State) : Served :=
  withPayload args s fun _ =>
    let l := s.gov.latch
    if !l.isSet then s.refuse .wrongState
    else if s.gov.marginsReady && !l.crewOverflow && !l.locatorOffline then s.releaseLatch.accepted
    else s.refuse .refusedSafety (l.causeField :: s.gov.limitingFields)

def execResume (tag : Byte) (args : Option Unit) (s : State) : Host.Outcome State Fault Refusal :=
  .next (s.accept 0x2A#8 tag (serveResume args))

/-! ### What GET SAFETY reads (R112) -/

/-- An activation and the byte of its guard input, which is 0 for ALWAYS and OFF (DESIGN CHOICE, log entry 28). -/
def Activation.fields : Activation → List Field
  | .always => [u8 0, u8 0]
  | .guard g => [u8 1, u8 g.val]
  | .off => [u8 2, u8 0]

/-- A zone's fields at the widths of SET ZONE. -/
def Zone.fields (z : Zone) : List Field :=
  [u8 z.kind.ctorIdx, i32 z.xmin, i32 z.xmax, i32 z.ymin, i32 z.ymax, i32 z.ceiling, i32 z.clearance]
  ++ z.activation.fields

/-- The six parameters at the widths of SET GOVERNOR, A in 32 bits signed (DESIGN CHOICE, log entry 7). -/
def GovernorParams.fields (p : GovernorParams) : List Field :=
  [i32 p.clearance, i32 p.slowBand, i32 p.decel, u16 p.creep, u16 p.scaleRise, flag p.autoResume]

/-- The fields of the GOVERNOR part (R112). DESIGN CHOICE: the guard inputs' raw samples go out as one flag byte and
their debounced states as another (log entry 28), and a braking distance beyond 32 bits as its low 32 bits (log entry
29). -/
def Governor.fields (g : Governor) : List Field :=
  g.params.fields
  ++ [u16 g.scale, u16 g.target, flags [g.caps.mode, g.caps.warmUp, g.caps.locator, g.caps.latch]]
  ++ g.limitingFields
  ++ [i32 g.braking, u8 g.near, flag g.releaseReady] ++ g.latch.fields
  ++ [flag g.latch.releaseHeld, u16 g.published.minScale, u8 g.published.near, flag g.published.governed,
    flags g.guardSample.toList, flags g.guardState.toList]

/-- The fields of the ZONES part (R112). -/
def Governor.zoneFields (g : Governor) (start : Nat) : List Field :=
  (page start 8 g.zones.toList).flatMap fun z => z.fields ++ [flag (z.active g.guardState)]

end Sys2Proof.Machine
end

