-- ==== Sys2Proof/Machine/Stops.lean ====
section
/-! DEFINITION. The Stop Supervisor (chapter 7): the emergency-stop loop, the enabling input, RESET STOP, the
safety test and GET SAFETY. -/

namespace Sys2Proof.Machine

/-! ### The tick (R116 to R118, R121, R129) -/

/-- R116: a sample of an emergency-stop channel; at the first tick after a reset without debounce (R129). -/
def EstopChannel.sample (first now : Bool) (e : EstopChannel) : EstopChannel :=
  ⟨now, if first then now else now || (e.isOpen && e.sampleOpen)⟩

/-- The discrepancy time in ticks (R117). -/
def State.discrepancyLimit (s : State) : Nat := msToTicks s.stop.discTime s.tb.tickRate

/-- R117: the discrepancy timer after a tick, before it is compared. -/
def nextDiscTimer (differ : Bool) : Option Nat → Option Nat
  | none => if differ then some 0 else none
  | some n => if differ then some (n + 1) else none

/-- R117: a timer exceeds the limit. -/
def timerExceeds (limit : Nat) : Option Nat → Bool
  | some n => limit < n
  | none => false

/-- R117, R118: the discrepancy timer, the both-open flag and DISCREPANCY, from the debounced states. -/
def StopSupervisor.judgeLoop (limit : Nat) (p : StopSupervisor) : StopSupervisor × Bool :=
  if p.causes.discrepancy then
    let both := p.bothOpen || (p.a.isOpen && p.b.isOpen)
    if both && !p.a.isOpen && !p.b.isOpen then ({ p with bothOpen := false }, false)
    else ({ p with bothOpen := both }, true)
  else
    let timer := nextDiscTimer (p.a.isOpen != p.b.isOpen) p.discTimer
    if timerExceeds limit timer then ({ p with discTimer := none, bothOpen := false }, true)
    else ({ p with discTimer := timer }, false)

/-- R116, R121: the lines are sampled and debounced. -/
def StopSupervisor.sample (inp : TickInputs) (p : StopSupervisor) : StopSupervisor :=
  { p with
    a := p.a.sample (!p.sampled) inp.estopAOpen
    b := p.b.sample (!p.sampled) inp.estopBOpen
    enableSample := inp.enableHeld
    enableHeld := debounce p.enableHeld p.enableSample inp.enableHeld
    sampled := true }

/-- A debounced state has changed (R116, R121). -/
def StopSupervisor.debouncedDiffer (p q : StopSupervisor) : Bool :=
  p.a.isOpen != q.a.isOpen || p.b.isOpen != q.b.isOpen || p.enableHeld != q.enableHeld

/-- The cause set after a tick's samples (R116, R118, R121). -/
def nextCauses (old new : StopSupervisor) (discrepancy : Bool) : Causes :=
  { old.causes with
    estopA := old.causes.estopA || (new.a.isOpen && !old.a.isOpen)
    estopB := old.causes.estopB || (new.b.isOpen && !old.b.isOpen)
    discrepancy := discrepancy
    enableReleased := !new.enableHeld }

/-- R115: the stopped frame mark takes the stop state of the tick. -/
def State.markStopped (s : State) : State :=
  { s with stop := { s.stop with mark := s.stop.mark || !s.stop.state.isRun } }

/-- The Stop Supervisor's work at a tick. -/
def State.supervisorTick (inp : TickInputs) (s : State) : State :=
  let old := s.stop
  let sampled := old.sample inp
  let (new, discrepancy) := sampled.judgeLoop s.discrepancyLimit
  let s := { s with stop := new }.raiseIf (old.debouncedDiffer new) .safety
  (s.applyCauses (nextCauses old new discrepancy)).markStopped

/-- R115: the mark of the frame just ended is published and a new one begun. -/
def State.turnMark (s : State) : State :=
  { s with stop := { s.stop with pubMark := s.stop.mark, mark := false } }

/-- R117: the tick with these samples raises DISCREPANCY by the timer. -/
def State.discrepancyDue (inp : TickInputs) (s : State) : Bool :=
  let p := s.stop.sample inp
  !s.stop.causes.discrepancy &&
    timerExceeds s.discrepancyLimit (nextDiscTimer (p.a.isOpen != p.b.isOpen) s.stop.discTimer)

/-! ### SET GOVERNOR, stop form (R119) -/

/-- SET GOVERNOR, stop form (R119), its checks in order. -/
def serveSetDiscrepancyTime (args : Option Nat) (s : State) : Served :=
  withPayload args s fun ms =>
    if !(20 ≤ ms && ms ≤ 500) then s.refuse .outOfRange
    else if s.saving then s.refuse .busy
    else if s.store.locked then s.refuse .locked
    else { s with stop := { s.stop with discTime := ms } }.accepted

def execSetGovernorStopForm (tag : Byte) (args : Option Nat) (s : State) :
    Host.Outcome State Fault Refusal :=
  .next (s.accept 0x29#8 tag (serveSetDiscrepancyTime args))

/-! ### RESET STOP (R123) -/

/-- R123: both channels read closed. -/
def StopSupervisor.loopClosed (p : StopSupervisor) : Bool := !p.a.isOpen && !p.b.isOpen

def StopSupervisor.noArmFault (p : StopSupervisor) : Bool := p.armFaults.toList.all (!·)

/-- R123: the three conditions. -/
def StopSupervisor.resetReady (p : StopSupervisor) : Bool :=
  p.loopClosed && !p.causes.discrepancy && p.noArmFault

/-- The failing conditions, the cause set and the arm-fault set (R123), each as one flag byte (DESIGN CHOICE, log
entry 28). -/
def StopSupervisor.refusalFields (p : StopSupervisor) : List Field :=
  [flags [!p.loopClosed, p.causes.discrepancy, !p.noArmFault], p.causes.field, flags p.armFaults.toList]

/-- RESET STOP (R123). -/
def serveResetStop (args : Option Unit) (s : State) : Served :=
  withPayload args s fun _ =>
    if s.stop.state ≠ .emergency then s.refuse .wrongState
    else if s.stop.resetReady then
      let t := s.applyCauses { s.stop.causes with estopA := false, estopB := false, armFault := false }
      t.accepted [u8 t.stop.state.ctorIdx]
    else s.refuse .refusedSafety s.stop.refusalFields

def execResetStop (tag : Byte) (args : Option Unit) (s : State) : Host.Outcome State Fault Refusal :=
  .next (s.accept 0x30#8 tag (serveResetStop args))

/-! ### The safety test (R124 to R126) -/

/-- R126: a running test counts a frame boundary, and at 0 ends. -/
def State.testBoundary (s : State) : State :=
  let t := s.stop.test
  if t.state ≠ .running then s
  else if 1 < t.remaining then { s with stop := { s.stop with test := { t with remaining := t.remaining - 1 } } }
  else
    let t := { t with remaining := 0, endFrame := some s.tb.frameNumber
                      state := if t.latchFrame.isSome then .pass else .fail }
    ({ s with stop := { s.stop with test := t } }.removeTest).raise .safety

/-- R124: the test record of a test that starts. -/
def startedTest (a : SafetyTestArgs) (frame : Nat) : TestRecord :=
  ⟨.running, a.x, a.y, a.duration, a.duration, frame, none, none, none, none⟩

/-- START SAFETY TEST (R124), its checks in order. -/
def serveStartSafetyTest (args : Option SafetyTestArgs) (s : State) : Served :=
  withPayload args s fun a =>
    if !(2 ≤ a.duration && a.duration ≤ 250) then s.refuse .outOfRange
    else if s.testRunning then s.refuse .busy
    else if !s.engineIdle then s.refuse .busy
    else if s.gov.latch.isSet then s.refuse .wrongState
    else if 24 ≤ s.crew.table.length then s.refuse .noSpace
    else
      let t := s.placeTest a.x a.y
      ({ t with stop := { t.stop with test := startedTest a s.tb.frameNumber } }.raise .safety).accepted
        [u32 s.tb.frameNumber]

def execStartSafetyTest (tag : Byte) (args : Option SafetyTestArgs) (s : State) :
    Host.Outcome State Fault Refusal :=
  .next (s.accept 0x31#8 tag (serveStartSafetyTest args))

/-! ### GET SAFETY (R112, R128) -/

/-- The fields of the STOPS part (R128). -/
def State.stopFields (s : State) : List Field :=
  let p := s.stop
  [u8 p.state.ctorIdx, u8 p.prev.ctorIdx, p.causes.field, flag p.a.sampleOpen, flag p.a.isOpen,
    flag p.b.sampleOpen, flag p.b.isOpen, u16 (p.discTimer.getD 0), u16 p.discTime,
    u16 s.discrepancyLimit, flag p.bothOpen, flag p.enableSample, flag p.enableHeld,
    flags p.armFaults.toList, flag p.pubMark, flag p.resetReady]

/-- The largest start index of each part of GET SAFETY, in the order ZONES, GOVERNOR, STOPS, TEST. -/
def safetyPartTop : Nat → Option Nat
  | 0 => some 15
  | 1 | 2 | 3 => some 0
  | _ => none

def State.safetyPart (s : State) (part start : Nat) : List Field :=
  match part with
  | 0 => s.gov.zoneFields start
  | 1 => s.gov.fields
  | 2 => s.stopFields
  | _ => s.stop.test.fields

/-- GET SAFETY (R112, R128). -/
def serveGetSafety (args : Option PartArgs) (s : State) : Served :=
  withPayload args s fun a =>
    match safetyPartTop a.part with
    | none => s.refuse .badFormat
    | some top => if top < a.start then s.refuse .outOfRange else s.accepted (s.safetyPart a.part a.start)

def execGetSafety (tag : Byte) (args : Option PartArgs) (s : State) : Host.Outcome State Fault Refusal :=
  .next (s.accept 0x32#8 tag (serveGetSafety args))

end Sys2Proof.Machine
end

