-- ==== Sys2Proof/Machine/Takes.lean ====
section
/-! DEFINITION. The Take Memory and the Recorder (chapter 9): recording, upload and download, erase and
access, the pass history and the directory. -/

namespace Sys2Proof.Machine

/-! ### Numbers of a request (R149, R155) -/

def slotIndex (n : Nat) : Option (Fin 32) := if h : 1 ≤ n ∧ n ≤ 32 then some ⟨n - 1, by omega⟩ else none

/-- R149: a name of 0 to 16 characters, each 20h to 7Eh. -/
def nameOk (name : List Byte) : Bool := name.length ≤ 16 && name.all fun b => 0x20#8 ≤ b && b ≤ 0x7E#8

/-- The channels that a mask names, ascending. -/
def maskChannels (mask : Nat) : List (Fin 10) := (List.finRange 10).filter fun i => mask.testBit i.val

/-- R150: a mask of channels that is not empty and names channels 0 to 9 only. -/
def maskOk (mask : Nat) : Bool := mask != 0 && mask < 1024

/-- Blocks that a take of `frames` frames needs (R146). -/
def blocksNeeded (channels frames : Nat) : Nat := ceilDiv frames (1024 / (4 + 4 * channels))

/-- R149: a slot is held by the Recorder. -/
def State.heldByRecorder (i : Fin 32) (s : State) : Bool :=
  s.recorder.state != .idle && s.recorder.slot == some i

/-- R149: a slot is held by the Player. -/
def State.heldByPlayer (i : Fin 32) (s : State) : Bool := s.player.state != .idle && s.player.slot == some i

/-! ### The boundary (R151, R152) -/

/-- R151: the Recorder goes to RECORDING. -/
def State.startRecording (s : State) : State :=
  match s.recorder.slot with
  | none => s
  | some i =>
    ({ s with recorder := { s.recorder with state := .recording } }.modSlot i
      fun sl => { sl with created := s.tb.frameNumber }).raise (.take .recordStarted (some i) none false none)

/-- The position that a boundary's record takes from a channel: the drive demand it most recently sent (R25, R152,
R181), whatever its source. For a channel under TAKE that is one tick short of what R181 says of a pass never slowed
(log entry 16). -/
def State.recordedPosition (i : Fin 10) (s : State) : Int := s.chans[i].demand

/-- R147, R152, R181, 12.2: the bytes of the record that a boundary writes for a slot. -/
def State.frameRecord (sl : Slot) (s : State) : List Byte :=
  let f := s.gov.published
  let overspeed := sl.set.any fun i => s.chans[i].overspeedLast
  [BitVec.ofNat 8 (flagBits [f.governed, s.stop.pubMark, s.tb.marks.holdover, s.tb.marks.slip, overspeed]),
    BitVec.ofNat 8 f.near] ++ leBytes 2 f.minScale ++ sl.set.flatMap fun i => intBytes 4 (s.recordedPosition i)

/-- R149, R152: a slot after a record has been written into it. -/
def Slot.grown (marks : FrameMarks) (sl : Slot) : Slot :=
  { sl with frames := sl.frames + 1
            flags := { sl.flags with slip := sl.flags.slip || marks.slip
                                     holdover := sl.flags.holdover || marks.holdover } }

/-- R152: record k is written in its place, and at 65,535 frames the recording ends. -/
def State.putRecord (i : Fin 32) (s : State) : State :=
  let sl := s.mem.slots[i]
  let mem := s.mem.writeStream sl (sl.frames * sl.recordSize) (s.frameRecord sl)
  let fill := (sl.frames % sl.framesPerBlock + 1) * sl.recordSize
  let s := { s with mem := mem, recorder := { s.recorder with fill := fill } }.modSlot i (Slot.grown s.tb.marks)
  if 65535 ≤ s.mem.slots[i].frames then s.endRecording .frameLimit else s

/-- R152: the next record needs a new block. -/
def Slot.blockFull (sl : Slot) : Bool := sl.frames != 0 && sl.frames % sl.framesPerBlock == 0

/-- R152: the Recorder's write at a boundary while RECORDING. -/
def State.writeRecord (s : State) : State :=
  match s.recorder.slot with
  | none => s
  | some i =>
    if s.mem.slots[i].blockFull then
      if s.mem.free.isEmpty then s.endRecording .noBlock
      else { s with mem := s.mem.takeBlock i }.putRecord i
    else s.putRecord i

/-- The Recorder's work at a frame boundary (R151, R152). -/
def State.recorderBoundary (s : State) : State :=
  let s := if s.recorder.state == .armed && s.recorder.startKind == .now then s.startRecording else s
  if s.recorder.state = .recording then s.writeRecord else s

/-- R154: the next boundary's record is the 65,535th, and has its place. -/
def State.recordLimitDue (s : State) : Bool :=
  s.recorder.state == .recording &&
  match s.recorder.slot with
  | some i => s.mem.slots[i].frames == 65534 && !(s.mem.slots[i].blockFull && s.mem.free.isEmpty)
  | none => false

/-! ### RECORD and STOP RECORD (R150, R153) -/

def startKindOf : Nat → Option StartKind
  | 0 => some .now
  | 1 => some .atRoll
  | _ => none

/-- A slot of a new take, with no block yet. -/
def Slot.fresh (state : TakeState) (name : List Byte) (set : List (Fin 10)) (code tpf : Nat) : Slot :=
  { Slot.empty with state := state, name := name, set := set, rateCode := code, tpf := tpf }

/-- R150: an accepted RECORD. -/
def State.armRecorder (i : Fin 32) (name : List Byte) (set : List (Fin 10)) (kind : StartKind) (s : State) :
    State :=
  let s := s.modSlot i fun _ => Slot.fresh .recording name set s.tb.rateCode s.tb.tpf
  { s with mem := s.mem.takeBlock i, recorder := ⟨.armed, some i, kind, 0⟩ }.raise
    (.take .recordArmed (some i) none false none)

/-- RECORD (R150), its checks in order. -/
def serveRecord (args : Option RecordArgs) (s : State) : Served :=
  withPayload args s fun a =>
    match nameOk a.name, startKindOf a.startKind with
    | true, some kind =>
      match slotIndex a.slot, maskOk a.set with
      | some i, true =>
        let set := maskChannels a.set
        if s.link.mode != .operate then s.refuse .wrongMode
        else if s.recorder.state != .idle || s.testRunning then s.refuse .busy
        else if s.stop.state = .emergency then s.refuse .refusedSafety
        else if s.mem.slots[i].state != .empty then s.refuse .occupied
        else if set.any fun c => !s.chans[c].cfg.present then s.refuse .wrongState
        else if kind = .atRoll ∧ s.player.state ≠ .cued then s.refuse .wrongState
        else match s.mem.free with
          | [] => s.refuse .noSpace
          | block :: _ => (s.armRecorder i a.name set kind).accepted [u16 block]
      | _, _ => s.refuse .outOfRange
    | _, _ => s.refuse .badFormat

def execRecord (tag : Byte) (args : Option RecordArgs) (s : State) : Host.Outcome State Fault Refusal :=
  .next (s.accept 0x40#8 tag (serveRecord args))

/-- The frame count of the Recorder's slot. -/
def State.recordedFrames (i : Option (Fin 32)) (s : State) : Nat :=
  match i with
  | some i => s.mem.slots[i].frames
  | none => 0

/-- STOP RECORD (R153). -/
def serveStopRecord (args : Option Unit) (s : State) : Served :=
  withPayload args s fun _ =>
    let slot := s.recorder.slot
    match s.recorder.state with
    | .idle => s.refuse .wrongState
    | .armed =>
      let t := s.cancelRecording
      t.accepted [u16 (t.recordedFrames slot)]
    | .recording =>
      let t := s.endRecording .stopRecord
      t.accepted [u16 (t.recordedFrames slot)]

def execStopRecord (tag : Byte) (args : Option Unit) (s : State) : Host.Outcome State Fault Refusal :=
  .next (s.accept 0x41#8 tag (serveStopRecord args))

/-! ### CREATE TAKE, WRITE TAKE DATA, CLOSE TAKE, READ TAKE DATA (R155 to R158) -/

/-- R148: blocks from the head of the free list join a chain in order. -/
def TakeMemory.claim (i : Fin 32) : Nat → TakeMemory → TakeMemory
  | 0, m => m
  | n + 1, m => (m.takeBlock i).claim i n

/-- R155: an accepted CREATE TAKE. -/
def State.createTake (i : Fin 32) (a : CreateTakeArgs) (s : State) : State :=
  let set := maskChannels a.set
  let new : Slot :=
    { Slot.fresh .loading a.name set a.rateCode a.tpf with
      frames := a.frameCount, play := true, erase := true, created := s.tb.frameNumber }
  let s := s.modSlot i fun _ => new
  { s with mem := s.mem.claim i (blocksNeeded set.length a.frameCount) }.raise
    (.take .takeCreated (some i) none false none)

/-- CREATE TAKE (R155), its checks in order. -/
def serveCreateTake (args : Option CreateTakeArgs) (s : State) : Served :=
  withPayload args s fun a =>
    if !nameOk a.name then s.refuse .badFormat
    else
      match slotIndex a.slot with
      | none => s.refuse .outOfRange
      | some i =>
        if !(maskOk a.set && a.rateCode ≤ 7 && tickRateOk a.rateCode a.tpf && 2 ≤ a.frameCount &&
            a.frameCount ≤ 65535) then s.refuse .outOfRange
        else if s.mem.slots[i].state != .empty then s.refuse .occupied
        else if s.mem.free.length < blocksNeeded (maskChannels a.set).length a.frameCount then
          s.refuse .noSpace
        else
          let t := s.createTake i a
          t.accepted [u32 (t.mem.slots[i]).streamLength]

def execCreateTake (tag : Byte) (args : Option CreateTakeArgs) (s : State) :
    Host.Outcome State Fault Refusal :=
  .next (s.accept 0x42#8 tag (serveCreateTake args))

/-- R156, R200: the header of a completed record. -/
def headerOk : List Byte → Bool
  | b0 :: b1 :: b2 :: b3 :: _ => b0.toNat < 32 && b1.toNat ≤ 24 && leNat [b2, b3] ≤ 1024
  | _ => false

/-- R156: the records that bytes from one offset to another complete have headers in order. -/
def TakeMemory.completedOk (m : TakeMemory) (sl : Slot) (before after : Nat) : Bool :=
  let first := before / sl.recordSize
  (List.range (after / sl.recordSize - first)).all fun j =>
    headerOk (m.stream sl ((first + j) * sl.recordSize) 4)

/-- WRITE TAKE DATA (R156, R200), its checks in order. -/
def serveWriteTakeData (args : Option WriteTakeArgs) (s : State) : Served :=
  withPayload args s fun a =>
    if a.bytes.length != a.count || a.count == 0 || 192 < a.count then s.refuse .badFormat
    else
      match slotIndex a.slot with
      | none => s.refuse .outOfRange
      | some i =>
        let sl := s.mem.slots[i]
        let after := sl.written + a.count
        let mem := s.mem.writeStream sl sl.written a.bytes
        if sl.state != .loading then s.refuse .wrongState
        else if a.offset != sl.written || sl.streamLength < after then s.refuse .outOfRange [u32 sl.written]
        else if !mem.completedOk sl sl.written after then s.refuse .badFormat [u32 sl.written]
        else ({ s with mem := mem }.modSlot i fun sl => { sl with written := after }).accepted [u32 after]

def execWriteTakeData (tag : Byte) (args : Option WriteTakeArgs) (s : State) :
    Host.Outcome State Fault Refusal :=
  .next (s.accept 0x43#8 tag (serveWriteTakeData args))

/-- A flag bit stands in some record of a take (R149, 12.2). -/
def TakeMemory.anyRecord (m : TakeMemory) (sl : Slot) (bit : Nat) : Bool :=
  (List.range sl.frames).any fun k => (readCell m.cells (sl.address (k * sl.recordSize))).getLsbD bit

/-- R157: a slot whose upload is complete. -/
def TakeMemory.loaded (m : TakeMemory) (sl : Slot) : Slot :=
  { sl with state := .ready, written := 0
            flags := ⟨false, false, m.anyRecord sl 3, m.anyRecord sl 2⟩ }

/-- CLOSE TAKE (R157), its checks in order. -/
def serveCloseTake (args : Option Nat) (s : State) : Served :=
  withPayload args s fun n =>
    match slotIndex n with
    | none => s.refuse .outOfRange
    | some i =>
      let sl := s.mem.slots[i]
      if sl.state != .loading then s.refuse .wrongState
      else if sl.written < sl.streamLength then s.refuse .incomplete [u32 sl.written]
      else ((s.modSlot i s.mem.loaded).raise (.take .takeLoaded (some i) none false none)).accepted

def execCloseTake (tag : Byte) (args : Option Nat) (s : State) : Host.Outcome State Fault Refusal :=
  .next (s.accept 0x44#8 tag (serveCloseTake args))

/-- READ TAKE DATA (R158), its checks in order. -/
def serveReadTakeData (args : Option ReadTakeArgs) (s : State) : Served :=
  withPayload args s fun a =>
    if !(1 ≤ a.count && a.count ≤ 192) then s.refuse .badFormat
    else
      match slotIndex a.slot with
      | none => s.refuse .outOfRange
      | some i =>
        let sl := s.mem.slots[i]
        if sl.state != .ready then s.refuse .wrongState
        else if sl.streamLength < a.offset + a.count then s.refuse .outOfRange
        else s.accepted [.text (s.mem.stream sl a.offset a.count)]

def execReadTakeData (tag : Byte) (args : Option ReadTakeArgs) (s : State) :
    Host.Outcome State Fault Refusal :=
  .next (s.accept 0x45#8 tag (serveReadTakeData args))

/-! ### ERASE TAKE and SET TAKE ACCESS (R159, R160) -/

/-- ERASE TAKE (R159), its checks in order. -/
def serveEraseTake (args : Option Nat) (s : State) : Served :=
  withPayload args s fun n =>
    match slotIndex n with
    | none => s.refuse .outOfRange
    | some i =>
      let sl := s.mem.slots[i]
      if sl.state = .empty then s.refuse .notFound
      else if s.heldByPlayer i || s.heldByRecorder i then s.refuse .busy
      else if !sl.erase then s.refuse .isProtected
      else ({ s with mem := s.mem.giveBack i }.raise (.take .takeErased (some i) none false none)).accepted
        [u16 sl.chain.length]

def execEraseTake (tag : Byte) (args : Option Nat) (s : State) : Host.Outcome State Fault Refusal :=
  .next (s.accept 0x46#8 tag (serveEraseTake args))

/-- SET TAKE ACCESS (R160), its checks in order. DESIGN CHOICE (log entry 15): bits 2 to 7 of the access byte are
ignored. -/
def serveSetTakeAccess (args : Option AccessArgs) (s : State) : Served :=
  withPayload args s fun a =>
    match slotIndex a.slot with
    | none => s.refuse .outOfRange
    | some i =>
      let play := a.access.testBit 0
      let erase := a.access.testBit 1
      if s.mem.slots[i].state = .empty then s.refuse .notFound
      else if s.heldByRecorder i then s.refuse .busy
      else if s.heldByPlayer i && !play then s.refuse .busy
      else ((s.modSlot i fun sl => { sl with play := play, erase := erase }).raise
        (.take .accessChanged (some i) none false none)).accepted

def execSetTakeAccess (tag : Byte) (args : Option AccessArgs) (s : State) :
    Host.Outcome State Fault Refusal :=
  .next (s.accept 0x47#8 tag (serveSetTakeAccess args))

/-! ### GET PASSES and GET DIRECTORY (R161, R162) -/

/-- GET PASSES (R161). -/
def serveGetPasses (args : Option Nat) (s : State) : Served :=
  withPayload args s fun start =>
    if 15 < start then s.refuse .outOfRange
    else s.accepted ([u8 s.mem.passes.length, u16 s.mem.passCount] ++
      (page start 8 s.mem.passes).flatMap PassRecord.fields)

def execGetPasses (tag : Byte) (args : Option Nat) (s : State) : Host.Outcome State Fault Refusal :=
  .next (s.accept 0x49#8 tag (serveGetPasses args))

/-- The bytes a field takes. -/
def Field.size : Field → Nat
  | .num w _ => w
  | .text b => b.length
  | .absent w => w

/-- Every field of R149 but the block chain; the bytes written stand for a LOADING slot only. -/
def Slot.fields (sl : Slot) : List Field :=
  [u8 sl.state.ctorIdx, nameField sl.name, u16 (channelMask sl.set), u8 sl.rateCode, u8 sl.tpf,
    u16 sl.frames, natOpt 4 (if sl.state = .loading then some sl.written else none),
    Machine.flags [sl.play, sl.erase], sl.flags.field, u32 sl.created]
  ++ match sl.lastPass with
    | some r => r.fields
    | none => [.absent passRecordSize]

/-- The first of some groups of fields that fit in a number of bytes. -/
def fitting : Nat → List (List Field) → List Field
  | _, [] => []
  | room, g :: rest =>
    let size := (g.map Field.size).sum
    if size ≤ room then g ++ fitting (room - size) rest else []

/-- The range of the start index of a part of GET DIRECTORY (R162). -/
def directoryStartOk (part start : Nat) : Bool :=
  match part with
  | 0 | 1 => 1 ≤ start && start ≤ 32
  | 2 => start ≤ 1023
  | _ => start == 0

/-- The fields of a part (R162); a reply's payload of at most 248 bytes bounds the slots it carries. DESIGN
CHOICE (log entry 28): the free count that every reply also carries stands last, so FREE sends it twice, first and
last, and RECORDER, whose own last field it is, once. -/
def State.directoryPart (s : State) (a : PartArgs) : List Field :=
  let room := 248 - 3
  (match a.part with
    | 0 => fitting room ((page (a.start - 1) 4 s.mem.slots.toList).map Slot.fields)
    | 1 =>
      let chain := match slotIndex a.start with
        | some i => s.mem.slots[i].chain
        | none => []
      u16 chain.length :: (page a.chain 64 chain).map u16
    | 2 => u16 s.mem.free.length :: (page a.start 64 s.mem.free).map u16
    | _ => [u8 s.recorder.state.ctorIdx, slotNumber s.recorder.slot, u8 s.recorder.startKind.ctorIdx,
        u16 s.recorder.fill, u8 s.player.state.ctorIdx, slotNumber s.player.slot])
  ++ [u16 s.mem.free.length]

/-- GET DIRECTORY (R162). -/
def serveGetDirectory (args : Option PartArgs) (s : State) : Served :=
  withPayload args s fun a =>
    if 3 < a.part then s.refuse .badFormat
    else if !directoryStartOk a.part a.start then s.refuse .outOfRange
    else s.accepted (s.directoryPart a)

def execGetDirectory (tag : Byte) (args : Option PartArgs) (s : State) :
    Host.Outcome State Fault Refusal :=
  .next (s.accept 0x48#8 tag (serveGetDirectory args))

end Sys2Proof.Machine
end

