-- ==== Sys2Proof/Machine/Player.lean ====
section
/-! DEFINITION. The Player (chapter 10): the cue, the roll, the take clock, pass flags and results, CUE, ROLL,
ABORT PLAY and RELEASE. -/

namespace Sys2Proof.Machine

/-! ### Positions (R167, R174) -/

/-- Positions for the channels of a slot, from a function of their place in the set; the others keep the
position last published. -/
def Slot.spread (sl : Slot) (f : Nat → Int) (before : Vector Int 10) : Vector Int 10 :=
  Vector.ofFn fun c => if c ∈ sl.set then f (sl.set.idxOf c) else before[c]

/-- The take frame length Q (R165). -/
def Slot.frameLength (sl : Slot) : Nat := sl.tpf * 1024

/-- The end of the take on the take clock (R175). -/
def Slot.endClock (sl : Slot) : Nat := (sl.frames - 1) * sl.frameLength

/-- R174: the interpolated position of the j-th channel at a take clock. -/
def TakeMemory.interpolate (m : TakeMemory) (sl : Slot) (clock j : Nat) : Int :=
  let f := clock / sl.frameLength
  let a := m.position sl f j
  if sl.frames ≤ f + 1 then a
  else a + ((m.position sl (f + 1) j - a) * (clock % sl.frameLength : Nat)).tdiv sl.frameLength

/-! ### Letting go with a report (R169, R170, R178) -/

/-- The Player returns to IDLE, lets go, and queues a TAKE report of an event. -/
def State.leaveWith (event : TakeEvent) (channel : Option (Fin 10)) (s : State) : State :=
  s.letGo.raise (.take event s.player.slot none false channel)

/-! ### Cueing (R168 to R170) -/

/-- R170: a held channel that is DISABLED or FAULTED, the lowest-indexed. -/
def State.failedChannel (s : State) : Option (Fin 10) :=
  (List.finRange 10).find? fun c =>
    s.heldSet.contains c && (s.chans[c].state == .disabled || s.chans[c].state == .faulted)

/-- R168: every held channel is at target. -/
def State.allAtTarget (s : State) : Bool := s.heldSet.all fun c => s.chans[c].atTarget

/-- R168: the approach is complete. -/
def State.cueReady (s : State) : State :=
  if s.player.state = .cueing ∧ s.allAtTarget then
    { s with player := { s.player with state := .cued } }.raise (.take .cueReady s.player.slot none false none)
  else s

/-- R169: the cue timer judges the frame just ended by the cue frame flag it left, and the flag is set
afresh. -/
def State.cueTimerBoundary (free : Bool) (s : State) : State :=
  if s.player.state = .cueing then
    let n := if free then s.player.cueTimer + 1 else s.player.cueTimer
    let s := { s with player := { s.player with cueTimer := n, cueFlag := true } }
    if s.player.cueTimeout ≤ n then s.leaveWith .cueTimeout none else s
  else s

/-- R169: the cue frame flag at a tick. -/
def State.cueFlagTick (s : State) : State :=
  { s with player := { s.player with
      cueFlag := s.player.cueFlag && s.gov.scale != 0 && s.stop.state == .run } }

/-- R168 to R170: a tick while CUEING; `free` is the cue frame flag as the frame just ended left it. DESIGN CHOICE (log
entry 11): a failed channel comes first, before the cue timer of the same boundary. -/
def State.cueingTick (timerFirst free boundary : Bool) (s : State) : State :=
  match s.failedChannel with
  | some c => s.leaveWith .cueFailed (some c)
  | none =>
    let s :=
      if boundary then
        if timerFirst then (s.cueTimerBoundary free).cueReady else s.cueReady.cueTimerBoundary free
      else s.cueReady
    if s.player.state = .cueing then s.cueFlagTick else s

/-- R169: the next boundary's timer reaches the cue timeout. DESIGN CHOICE (log entry 11): a failed channel ends the cue
before it. -/
def State.cueTimeoutDue (s : State) : Bool :=
  s.player.state == .cueing && s.player.cueFlag && s.player.cueTimeout ≤ s.player.cueTimer + 1 &&
    s.failedChannel.isNone

/-! ### The roll (R172) -/

/-- R176: the flags of a pass that opens. -/
def PassFlags.opening (rate : Nat) : PassFlags := ⟨false, rate = 0, false, false, false, false, false⟩

/-- R172: the pass begins. DESIGN CHOICE (log entry 7): the record opens with the end frame 0 and the lag in frames 0,
which R172 does not name, and PASS reports carry them as numbers until the close fixes them. -/
def State.beginPass (i : Fin 32) (s : State) : State :=
  let rate := s.gov.scale
  let sl := s.mem.slots[i]
  let record : PassRecord :=
    { slot := i, rollFrame := s.tb.frameNumber, endFrame := 0, ticks := 0, lag := 0, lagFrames := 0
      paceFall := s.player.paceFall, paceRise := s.player.paceRise, flags := .opening rate, result := none }
  let positions := sl.spread (s.mem.position sl 0) s.player.positions
  let player :=
    { s.player with state := .playing, rollPending := false, clock := 0, lag := 0, ticks := 0, rate := rate
                    pass := some record, positions := positions }
  let s := sl.set.foldl (fun s c => s.setActive c .take) { s with player := player }
  let s := if s.recorder.state == .armed && s.recorder.startKind == .atRoll then s.startRecording else s
  (s.raise (.take .passStarted (some i) none false none)).raise (.pass none)

/-- R172: the first boundary after an accepted ROLL. -/
def State.rollBoundary (s : State) : State :=
  match s.player.slot with
  | none => s
  | some i =>
    if s.stop.state = .run then s.beginPass i
    else { s with player := { s.player with rollPending := false } }.raise
      (.take .rollWithdrawn (some i) none false none)

/-- R170, R172: a tick while CUED. DESIGN CHOICE (log entry 11): a failed channel comes first, before a pending roll. -/
def State.cuedTick (boundary : Bool) (s : State) : State :=
  match s.failedChannel with
  | some c => s.leaveWith .cueFailed (some c)
  | none => if boundary && s.player.rollPending then s.rollBoundary else s

/-! ### The take clock (R173 to R177) -/

/-- R173, step 1. -/
def State.rateTarget (s : State) : Nat :=
  match s.stop.state with
  | .hold | .protective => 0
  | .run | .emergency => s.gov.scale

/-- R173, step 2. -/
def Player.nextRate (target : Nat) (p : Player) : Nat :=
  if target < p.rate then max target (p.rate - p.paceFall)
  else if p.rate < target then min target (p.rate + p.paceRise)
  else p.rate

/-- R173, steps 2 to 4, toward the end of the take. -/
def Player.advance (target endClock : Nat) (p : Player) : Player :=
  let rate := p.nextRate target
  let step := min rate (endClock - p.clock)
  if p.ticks = 4294967295 then { p with rate := rate }
  else { p with rate := rate, clock := p.clock + step, ticks := p.ticks + 1, lag := p.lag + (1024 - step) }

/-- R176: the flags that a tick of a pass sets, of the marks a boundary publishes too. -/
def State.passFlags (boundary : Bool) (s : State) (f : PassFlags) : PassFlags :=
  { f with
    governed := f.governed || s.gov.scale < 1024
    paused := f.paused || s.player.rate == 0
    slip := f.slip || (boundary && s.tb.marks.slip)
    holdover := f.holdover || s.tb.pubLock == .holdover
    unlocked := f.unlocked || (boundary && s.tb.marks.unlocked) }

/-- R177: the result of a pass that reaches its end. -/
def endResult (lag : Nat) (f : PassFlags) : PassResult :=
  if 0 < lag then .paceLost
  else if f.slip || f.holdover || f.unlocked || f.overspeed || f.channelFault then .degraded
  else .frameTrue

/-- R175: the take clock has reached the end of the take. -/
def State.reachEnd (i : Fin 32) (s : State) : State :=
  let result := match s.player.pass with
    | some r => endResult s.player.lag r.flags
    | none => .frameTrue
  let s := s.closePass result
  { s with player := { s.player with state := .held } }.raise (.take .takeHeld (some i) none false none)

/-- R173 to R176: a tick while PLAYING. -/
def State.playingTick (boundary : Bool) (s : State) : State :=
  match s.player.slot with
  | none => s
  | some i =>
    let sl := s.mem.slots[i]
    let p := s.player.advance s.rateTarget sl.endClock
    let p := { p with positions := sl.spread (s.mem.interpolate sl p.clock) p.positions }
    let s := { s with player := p }
    let s := s.flagPass (s.passFlags boundary)
    if sl.endClock ≤ p.clock then s.reachEnd i else s

/-- The Player's work at a tick, and at a boundary (chapter 10). -/
def State.playerTick (timerFirst free boundary : Bool) (s : State) : State :=
  match s.player.state with
  | .idle | .held => s
  | .cueing => s.cueingTick timerFirst free boundary
  | .cued => s.cuedTick boundary
  | .playing => s.playingTick boundary

/-! ### CUE (R166, R167) -/

/-- R166: the replay parameters of a CUE, when in range; the defaults when it carries none. -/
def checkReplay : Option ReplayArgs → Option ReplayArgs
  | none => some ⟨3000, 16, 8⟩
  | some a =>
    if 250 ≤ a.cueTimeout ∧ a.cueTimeout ≤ 15000 ∧ 1 ≤ a.paceFall ∧ a.paceFall ≤ 1024 ∧ 1 ≤ a.paceRise ∧
        a.paceRise ≤ 1024 then some a
    else none

/-- R166: a held channel may be cued. -/
def Channel.mayCue (c : Channel) : Bool :=
  c.cfg.present &&
  match c.state with
  | .active | .parking | .parked | .releasing => true
  | .disabled | .stopping | .faulted => false

def ChState.parks : ChState → Bool
  | .parking | .parked => true
  | .disabled | .releasing | .active | .stopping | .faulted => false

/-- R32: the Player leaving IDLE takes a PARKING or PARKED channel out of that state. -/
def State.unparkChannel (i : Fin 10) (s : State) : State :=
  let c := s.chans[i]
  if !c.state.parks then s
  else
    let t := s.modChan i (Channel.unpark s.tb.tickRate)
    if c.withinLimits then t else (t.disarm fun j => j = i).raise (.fault i)

/-- R167: an accepted CUE. -/
def State.cue (i : Fin 32) (r : ReplayArgs) (s : State) : State :=
  let sl := s.mem.slots[i]
  let player :=
    { s.player with state := .cueing, slot := some i, cueTimeout := r.cueTimeout, paceFall := r.paceFall
                    paceRise := r.paceRise, cueTimer := 0, cueFlag := true, rollPending := false, clock := 0
                    rate := 0, lag := 0, ticks := 0, pass := none }
  let target (c : Fin 10) : Int := s.mem.position sl 0 (sl.set.idxOf c)
  let s := sl.set.foldl (fun s c => s.setActive c (.approach (target c))) { s with player := player }
  ((List.finRange 10).foldl (fun s c => s.unparkChannel c) s).raise
    (.take .cueTaken (some i) none false none)

/-- CUE (R166), its checks in order. -/
def serveCue (args : Option CueArgs) (s : State) : Served :=
  withPayload args s fun a =>
    match slotIndex a.slot, checkReplay a.replay with
    | some i, some r =>
      let sl := s.mem.slots[i]
      if s.link.mode != .operate then s.refuse .wrongMode
      else if s.player.state != .idle || s.testRunning then s.refuse .busy
      else if s.stop.state = .emergency then s.refuse .refusedSafety
      else if sl.state = .empty then s.refuse .notFound
      else if sl.state ≠ .ready then s.refuse .wrongState
      else if !sl.play then s.refuse .isProtected
      else if sl.rateCode != s.tb.rateCode || sl.tpf != s.tb.tpf then s.refuse .rateMismatch
      else if sl.set.any fun c => !s.chans[c].mayCue then s.refuse .wrongState
      else (s.cue i r).accepted
    | _, _ => s.refuse .outOfRange

def execCue (tag : Byte) (args : Option CueArgs) (s : State) : Host.Outcome State Fault Refusal :=
  .next (s.accept 0x50#8 tag (serveCue args))

/-! ### ROLL, ABORT PLAY and RELEASE (R171, R178, R179) -/

/-- R171: the lock states a pass may roll in. -/
def LockState.mayRoll : LockState → Bool
  | .locked | .freeRun => true
  | .acquiring | .holdover | .noReference => false

/-- ROLL (R171), its checks in order. -/
def serveRoll (args : Option Unit) (s : State) : Served :=
  withPayload args s fun _ =>
    if s.player.state ≠ .cued then s.refuse .wrongState
    else if s.player.rollPending then s.refuse .busy
    else if s.stop.state ≠ .run then s.refuse .refusedSafety
    else if !s.tb.pubLock.mayRoll then s.refuse .notLocked
    else { s with player := { s.player with rollPending := true } }.accepted

def execRoll (tag : Byte) (args : Option Unit) (s : State) : Host.Outcome State Fault Refusal :=
  .next (s.accept 0x51#8 tag (serveRoll args))

/-- The closed record that an aborted pass leaves (R179). -/
def State.abortedFields (s : State) : List Field :=
  match s.player.pass with
  | some r => (s.player.closedRecord r (s.mem.slots[r.slot]).tpf s.tb.frameNumber .aborted).fields
  | none => []

/-- ABORT PLAY (R179). -/
def serveAbortPlay (args : Option Unit) (s : State) : Served :=
  withPayload args s fun _ =>
    match s.player.state with
    | .idle => s.refuse .wrongState
    | .playing => ((s.closePass .aborted).leaveWith .playerReleased none).accepted s.abortedFields
    | .cueing | .cued | .held => (s.leaveWith .playerReleased none).accepted

def execAbortPlay (tag : Byte) (args : Option Unit) (s : State) : Host.Outcome State Fault Refusal :=
  .next (s.accept 0x52#8 tag (serveAbortPlay args))

/-- RELEASE (R178). -/
def serveRelease (args : Option Unit) (s : State) : Served :=
  withPayload args s fun _ =>
    if s.player.state = .held then (s.leaveWith .playerReleased none).accepted else s.refuse .wrongState

def execRelease (tag : Byte) (args : Option Unit) (s : State) : Host.Outcome State Fault Refusal :=
  .next (s.accept 0x53#8 tag (serveRelease args))

end Sys2Proof.Machine
end

