-- ==== Sys2Proof/Machine/Operands.lean ====
section
/-! DEFINITION. The payloads of the requests (R198, R199): fields in the order the owning rule names them, each
at its width. A reader of a payload answers none where its length fits no form of the kind. -/

namespace Sys2Proof.Machine

/-- Takes a value off the front of some bytes. -/
abbrev Reader (α : Type) := List Byte → Option (α × List Byte)

/-- A payload that a reader takes whole. -/
def whole {α : Type} (r : Reader α) (b : List Byte) : Option α :=
  match r b with
  | some (a, []) => some a
  | _ => none

/-- R199: a payload without fields. -/
def noFields : Reader Unit := fun b => some ((), b)

/-- A name: a length byte, then that many characters (R198). -/
def readName : Reader (List Byte) := fun b => do
  let (n, b) ← getNat 1 b
  if n ≤ b.length then some (b.take n, b.drop n) else none

/-- The same fields a number of times. -/
def readMany {α : Type} (r : Reader α) : Nat → Reader (List α)
  | 0 => fun b => some ([], b)
  | n + 1 => fun b => do
    let (a, b) ← r b
    let (rest, b) ← readMany r n b
    some (a :: rest, b)

def readTimebase : Reader TimebaseArgs := fun b => do
  let (source, b) ← getNat 1 b
  let (rateCode, b) ← getNat 1 b
  let (tpf, b) ← getNat 1 b
  let (limit, b) ← getNat 2 b
  some (⟨source, rateCode, tpf, limit⟩, b)

def readChannelArgs : Reader ChannelArgs := fun b => do
  let (present, b) ← getNat 1 b
  let (zeroOffset, b) ← getInt 4 b
  let (multiplier, b) ← getInt 4 b
  let (softMin, b) ← getInt 4 b
  let (softMax, b) ← getInt 4 b
  let (vmax, b) ← getInt 4 b
  let (accel, b) ← getInt 4 b
  let (stopDecel, b) ← getInt 4 b
  let (followingLimit, b) ← getInt 4 b
  let (parkDelay, b) ← getNat 2 b
  let (releaseTime, b) ← getNat 2 b
  let (engageTime, b) ← getNat 2 b
  let (pickupWindow, b) ← getInt 4 b
  some (⟨present, zeroOffset, multiplier, softMin, softMax, vmax, accel, stopDecel, followingLimit,
    parkDelay, releaseTime, engageTime, pickupWindow⟩, b)

/-- An index byte, then other fields. -/
def readIndexed {α : Type} (r : Reader α) : Reader (Nat × α) := fun b => do
  let (i, b) ← getNat 1 b
  let (a, b) ← r b
  some ((i, a), b)

/-- The source kind of SET ROUTE with its parameter (R199): a kind without a layout takes what is there. -/
def readRouteArg : Reader RouteArg := fun b => do
  let (kind, b) ← getNat 1 b
  match kind with
  | 0 => do
    let (k, b) ← getNat 1 b
    some (.rate k, b)
  | 1 => do
    let (k, b) ← getNat 1 b
    some (.position k, b)
  | 2 => do
    let (physical, b) ← getNat 1 b
    let (value, b) ← getInt 4 b
    some (.preset physical value, b)
  | 3 => some (.hold, b)
  | 4 => some (.follow, b)
  | kind => some (.other kind, [])

def readRouter : Reader (Nat × Nat) := fun b => do
  let (timeout, b) ← getNat 2 b
  let (deadband, b) ← getNat 2 b
  some ((timeout, deadband), b)

/-- A pair of CONTROL SAMPLE (R48). -/
def readPair : Reader (Nat × Int) := fun b => do
  let (k, b) ← getNat 1 b
  let (value, b) ← getInt 2 b
  some ((k, value), b)

/-- The pairs of CONTROL SAMPLE, as many as the payload holds. -/
def readPairs (b : List Byte) : Option (List (Nat × Int)) := whole (readMany readPair (b.length / 3)) b

def readGeometry : Reader GeometryArgs := fun b => do
  let (x0, b) ← getInt 4 b
  let (y0, b) ← getInt 4 b
  let (h, b) ← getInt 4 b
  let (l0, b) ← getInt 4 b
  let (ceiling, b) ← getInt 4 b
  some (⟨x0, y0, h, l0, ceiling⟩, b)

def readLocator : Reader LocatorArgs := fun b => do
  let (index, b) ← getNat 1 b
  let (configured, b) ← getNat 1 b
  let (address, b) ← getNat 1 b
  let (optional, b) ← getNat 1 b
  let (window, b) ← getNat 2 b
  some (⟨index, configured, address, optional, window⟩, b)

def readTag : Reader TagArgs := fun b => do
  let (id, b) ← getNat 2 b
  let (role, b) ← getNat 1 b
  let (base, b) ← getInt 4 b
  some (⟨id, role, base⟩, b)

/-- SET TAG's tracker parameters (R81). DESIGN CHOICE (log entry 7): stale after takes 16 bits, as lost after does. -/
def readTracker : Reader TrackerArgs := fun b => do
  let (minQuality, b) ← getNat 1 b
  let (staleAfter, b) ← getNat 2 b
  let (lostAfter, b) ← getNat 2 b
  let (growth, b) ← getInt 4 b
  let (lostCap, b) ← getInt 4 b
  let (defaultRadius, b) ← getInt 4 b
  some (⟨minQuality, staleAfter, lostAfter, growth, lostCap, defaultRadius⟩, b)

/-- A part and a start index. -/
def readPart : Reader PartArgs := fun b => do
  let (part, b) ← getNat 1 b
  let (start, b) ← getNat 2 b
  some (⟨part, start, 0⟩, b)

/-- GET DIRECTORY's part CHAIN carries a chain index too (R162). -/
def readDirectoryPart : Reader PartArgs := fun b => do
  let (a, b) ← readPart b
  if a.part = 1 then do
    let (chain, b) ← getNat 2 b
    some ({ a with chain := chain }, b)
  else some (a, b)

/-- SET ZONE's fields after the index (R95). DESIGN CHOICE (log entry 28): the activation is followed by one byte of
guard input, which ALWAYS and OFF ignore. -/
def readZone : Reader ZoneArgs := fun b => do
  let (kind, b) ← getNat 1 b
  let (xmin, b) ← getInt 4 b
  let (xmax, b) ← getInt 4 b
  let (ymin, b) ← getInt 4 b
  let (ymax, b) ← getInt 4 b
  let (ceiling, b) ← getInt 4 b
  let (clearance, b) ← getInt 4 b
  let (activation, b) ← getNat 1 b
  let (guard_, b) ← getNat 1 b
  some (⟨kind, xmin, xmax, ymin, ymax, ceiling, clearance, activation, guard_⟩, b)

/-- SET GOVERNOR's parameters (R97). DESIGN CHOICE (log entry 7): the stop deceleration A takes 32 bits, signed, as
the values in mm beside it. -/
def readGovernor : Reader GovernorArgs := fun b => do
  let (clearance, b) ← getInt 4 b
  let (slowBand, b) ← getInt 4 b
  let (decel, b) ← getInt 4 b
  let (creep, b) ← getNat 2 b
  let (scaleRise, b) ← getNat 2 b
  let (auto, b) ← getNat 1 b
  some (⟨clearance, slowBand, decel, creep, scaleRise, auto⟩, b)

def readSafetyTest : Reader SafetyTestArgs := fun b => do
  let (x, b) ← getInt 4 b
  let (y, b) ← getInt 4 b
  let (duration, b) ← getNat 2 b
  some (⟨x, y, duration⟩, b)

/-- A point of a lens table (R134). DESIGN CHOICE (log entry 7): its value takes 32 bits signed for ZOOM and IRIS too,
whose units R198 does not name. -/
def readPoint : Reader LensPoint := fun b => do
  let (counts, b) ← getInt 4 b
  let (value, b) ← getInt 4 b
  some (⟨counts, value⟩, b)

/-- LOAD LENS TABLE's channel index and points, after its point count (R134). -/
def readLensTable : Reader LensTableArgs := fun b => do
  let (channel, b) ← getNat 1 b
  let (n, b) ← getNat 1 b
  let (points, b) ← readMany readPoint n b
  some (⟨channel, points⟩, b)

def readFocus : Reader FocusArg := fun b => do
  let (kind, b) ← getNat 1 b
  match kind with
  | 0 => do
    let (offset, b) ← getInt 4 b
    some (.noTarget offset, b)
  | 1 => do
    let (x, b) ← getInt 4 b
    let (y, b) ← getInt 4 b
    let (z, b) ← getInt 4 b
    let (offset, b) ← getInt 4 b
    some (.point x y z offset, b)
  | 2 => do
    let (id, b) ← getNat 2 b
    let (eye, b) ← getInt 4 b
    let (offset, b) ← getInt 4 b
    some (.tag id eye offset, b)
  | kind => some (.other kind, [])

def readRecord : Reader RecordArgs := fun b => do
  let (slot, b) ← getNat 1 b
  let (name, b) ← readName b
  let (set, b) ← getNat 2 b
  let (kind, b) ← getNat 1 b
  some (⟨slot, name, set, kind⟩, b)

def readCreateTake : Reader CreateTakeArgs := fun b => do
  let (slot, b) ← getNat 1 b
  let (name, b) ← readName b
  let (set, b) ← getNat 2 b
  let (code, b) ← getNat 1 b
  let (tpf, b) ← getNat 1 b
  let (frames, b) ← getNat 2 b
  some (⟨slot, name, set, code, tpf, frames⟩, b)

/-- WRITE TAKE DATA (R156). DESIGN CHOICE (log entry 15): the byte count is one byte, between the offset and the data
bytes, which are all that follows it. -/
def readWriteTake : Reader WriteTakeArgs := fun b => do
  let (slot, b) ← getNat 1 b
  let (offset, b) ← getNat 4 b
  let (count, b) ← getNat 1 b
  some (⟨slot, offset, count, b⟩, [])

def readReadTake : Reader ReadTakeArgs := fun b => do
  let (slot, b) ← getNat 1 b
  let (offset, b) ← getNat 4 b
  let (count, b) ← getNat 1 b
  some (⟨slot, offset, count⟩, b)

def readAccess : Reader AccessArgs := fun b => do
  let (slot, b) ← getNat 1 b
  let (access, b) ← getNat 1 b
  some (⟨slot, access⟩, b)

/-- CUE: a slot, alone or with the three replay parameters (R166). -/
def readCue : Reader CueArgs := fun b => do
  let (slot, b) ← getNat 1 b
  if b.isEmpty then some (⟨slot, none⟩, [])
  else do
    let (timeout, b) ← getNat 2 b
    let (fall, b) ← getNat 2 b
    let (rise, b) ← getNat 2 b
    some (⟨slot, some ⟨timeout, fall, rise⟩⟩, b)

def readReports : Reader ReportsArgs := fun b => do
  let (mask, b) ← getNat 1 b
  let (interval, b) ← getNat 2 b
  some (⟨mask, interval⟩, b)

end Sys2Proof.Machine
end

