-- ==== Sys2Proof/Machine/Settings.lean ====
section
/-! DEFINITION. The Settings Store (11.6 to 11.9): the settings image, the load, saving, the settings lock,
RESTART and power-on reset. -/

namespace Sys2Proof.Machine

/-! ### The settings of R192 -/

structure LocatorConfig where
  configured : Bool
  address : Nat
  optional : Bool
  window : Nat
  deriving DecidableEq, Repr

/-- The settings, in the order of R192. -/
structure Settings where
  source : RefSource
  rateCode : Nat
  tpf : Nat
  holdoverLimit : Nat
  chans : Vector ChannelConfig 10
  routes : Vector RouteSource 10
  controlTimeout : Nat
  deadband : Nat
  geometry : Geometry
  geometrySet : Bool
  locators : Vector LocatorConfig 8
  directory : List TagEntry
  tracker : TrackerParams
  zones : Vector Zone 16
  governor : GovernorParams
  discTime : Nat
  tables : Vector (List LensPoint) 3
  target : FocusTarget
  mask : Vector Bool 8
  interval : Nat
  mode : Mode
  deriving DecidableEq, Repr

def Locator.config (l : Locator) : LocatorConfig := ⟨l.configured, l.address, l.optional, l.window⟩

/-- R194: a snapshot of every setting as it stands. -/
def State.settings (s : State) : Settings where
  source := s.tb.source
  rateCode := s.tb.rateCode
  tpf := s.tb.tpf
  holdoverLimit := s.tb.holdoverLimit
  chans := Vector.ofFn fun i => s.chans[i].cfg
  routes := Vector.ofFn fun i => s.router.routes[i].configured
  controlTimeout := s.router.controlTimeout
  deadband := s.router.deadband
  geometry := s.pose.geometry
  geometrySet := s.pose.geometrySet
  locators := Vector.ofFn fun i => s.bus.locators[i].config
  directory := s.crew.directory
  tracker := s.crew.params
  zones := s.gov.zones
  governor := s.gov.params
  discTime := s.stop.discTime
  tables := s.lens.tables
  target := s.lens.target
  mask := s.link.mask
  interval := s.link.interval
  mode := s.link.mode

/-! ### The image (12.3) -/

/-- The image format code this part writes and accepts (12.3). -/
def formatCode : Nat := 0x0031

/-- A route entry: kind, control index, physical flag, counts, physical value (12.3). -/
def RouteSource.imageFields : RouteSource → List Field
  | .rate k => [u8 0, u8 k.val, flag false, i32 0, i32 0]
  | .position k => [u8 1, u8 k.val, flag false, i32 0, i32 0]
  | .preset counts physical =>
    [u8 2, u8 0, flag physical.isSome, i32 counts, i32 (physical.getD 0)]
  | .hold => [u8 3, u8 0, flag false, i32 0, i32 0]
  | .follow => [u8 4, u8 0, flag false, i32 0, i32 0]

def Geometry.fields (g : Geometry) : List Field := [i32 g.x0, i32 g.y0, i32 g.h, i32 g.l0, i32 g.crewCeiling]

def LocatorConfig.fields (l : LocatorConfig) : List Field :=
  [flag l.configured, u8 l.address, flag l.optional, u16 l.window]

/-- A lens table: its point count, then its points (12.3). DESIGN CHOICE (log entry 7): a point's value takes 32 bits
signed on every lens channel. -/
def tableFields (points : List LensPoint) : List Field :=
  u8 points.length :: points.flatMap fun p => [i32 p.counts, i32 p.value]

/-- The settings in the order of R192. -/
def Settings.fields (t : Settings) : List Field :=
  [u8 t.source.ctorIdx, u8 t.rateCode, u8 t.tpf, u16 t.holdoverLimit]
  ++ t.chans.toList.flatMap ChannelConfig.fields
  ++ t.routes.toList.flatMap RouteSource.imageFields ++ [u16 t.controlTimeout, u16 t.deadband]
  ++ t.geometry.fields ++ [flag t.geometrySet]
  ++ t.locators.toList.flatMap LocatorConfig.fields
  ++ u8 t.directory.length :: t.directory.flatMap TagEntry.fields ++ t.tracker.fields
  ++ t.zones.toList.flatMap Zone.fields ++ t.governor.fields ++ [u16 t.discTime]
  ++ t.tables.toList.flatMap tableFields ++ t.target.fields
  ++ [flags t.mask.toList, u16 t.interval, u8 t.mode.ctorIdx]

/-- The settings image (R192, 12.3): format code, length, settings, CRC-32. -/
def Settings.image (t : Settings) : List Byte :=
  let body := t.fields.flatMap Field.bytes
  let covered := leBytes 2 formatCode ++ leBytes 4 (body.length + 10) ++ body
  covered ++ leBytes 4 (crc32 covered).toNat

/-! ### Reading an image (R193) -/

/-- A value within its range. -/
def checked {α β : Type} (r : Reader α) (check : α → Option β) : Reader β := fun b => do
  let (a, b) ← r b
  let v ← check a
  some (v, b)

/-- A fixed number of entries. -/
def readVector {α : Type} (r : Reader α) (n : Nat) : Reader (Vector α n) := fun b => do
  let (list, b) ← readMany r n b
  if h : list.length = n then some (⟨list.toArray, by simpa using h⟩, b) else none

def readYesNo : Reader Bool := checked (getNat 1) yesNo

/-- R44: the source that a route entry of the image stands for. -/
def routeOf (kind k : Nat) (physical : Bool) (counts value : Int) : Option RouteSource :=
  let bare := !physical && counts == 0 && value == 0
  match kind with
  | 0 => if bare then (controlIndex k).map .rate else none
  | 1 => if bare then (controlIndex k).map .position else none
  | 2 =>
    if k ≠ 0 then none
    else if physical then some (.preset counts (some value))
    else if value = 0 then some (.preset counts none) else none
  | 3 => if bare && k == 0 then some .hold else none
  | 4 => if bare && k == 0 then some .follow else none
  | _ => none

def readRoute : Reader RouteSource := fun b => do
  let (kind, b) ← getNat 1 b
  let (k, b) ← getNat 1 b
  let (physical, b) ← readYesNo b
  let (counts, b) ← getInt 4 b
  let (value, b) ← getInt 4 b
  let src ← routeOf kind k physical counts value
  some (src, b)

def readLocatorConfig : Reader LocatorConfig := fun b => do
  let (configured, b) ← readYesNo b
  let (address, b) ← getNat 1 b
  let (optional, b) ← readYesNo b
  let (window, b) ← getNat 2 b
  if 1 ≤ address ∧ address ≤ 254 ∧ 400 ≤ window ∧ window ≤ 1800 then
    some (⟨configured, address, optional, window⟩, b)
  else none

/-- R79: a tag entry within its ranges. -/
def checkTag (a : TagArgs) : Option TagEntry :=
  match roleOf a.role with
  | some role =>
    if 1 ≤ a.tagId ∧ a.tagId ≤ 65534 ∧ inRange 100 3000 a.baseRadius then some ⟨a.tagId, role, a.baseRadius⟩
    else none
  | none => none

/-- A count byte within a limit, then that many entries. -/
def readList {α : Type} (limit : Nat) (r : Reader α) : Reader (List α) := fun b => do
  let (n, b) ← getNat 1 b
  if n ≤ limit then readMany r n b else none

def focusKindOf : Nat → Option FocusKind
  | 0 => some .none
  | 1 => some .point
  | 2 => some .tag
  | _ => none

/-- R137: a focus target record of the image: its fields in their ranges whatever its kind, and a tag id
that a TAG target may name. -/
def focusTargetOk (t : FocusTarget) : Bool :=
  inRange 0 4000 t.eyeHeight && inRange (-20000) 20000 t.offset && t.tagId ≤ 65534 &&
    (t.kind != .tag || t.tagId != 0)

def readFocusTarget : Reader FocusTarget := fun b => do
  let (kind, b) ← checked (getNat 1) focusKindOf b
  let (x, b) ← getInt 4 b
  let (y, b) ← getInt 4 b
  let (z, b) ← getInt 4 b
  let (tagId, b) ← getNat 2 b
  let (eye, b) ← getInt 4 b
  let (offset, b) ← getInt 4 b
  let t : FocusTarget := ⟨kind, x, y, z, tagId, eye, offset⟩
  if focusTargetOk t then some (t, b) else none

/-- The modes an image may hold (R191). -/
def modeOf : Nat → Option Mode
  | 1 => some .setup
  | 2 => some .operate
  | _ => none

/-- The flags that bits spell. -/
def maskOf (n : Nat) : Vector Bool 8 := Vector.ofFn fun i => n.testBit i.val

def inNatRange (lo hi n : Nat) : Option Nat := if lo ≤ n ∧ n ≤ hi then some n else none

def checkGovernorArgs (a : GovernorArgs) : Option GovernorParams :=
  match yesNo a.autoResume with
  | some auto => checkGovernor a auto
  | none => none

/-- The tag directory of an image: a count byte of 0 to 64, then the entries, each in its ranges (R79, 12.3). DESIGN
CHOICE (log entry 21): entries that do not ascend are taken as SET TAG takes them, in order of tag id, the later of two
with one tag id. -/
def readDirectory : Reader (List TagEntry) := fun b => do
  let (entries, b) ← readList 64 (checked readTag checkTag) b
  some (directoryOf entries, b)

/-- The settings of an image, in the order of R192, each in its range. -/
def readSettings : Reader Settings := fun b => do
  let (a, b) ← readTimebase b
  let source ← checkTimebase a
  let (chans, b) ← readVector (checked readChannelArgs checkChannelConfig) 10 b
  let (routes, b) ← readVector readRoute 10 b
  let (timeout, b) ← checked (getNat 2) (inNatRange 50 1000) b
  let (deadband, b) ← checked (getNat 2) (inNatRange 0 2048) b
  let (geometry, b) ← checked readGeometry checkGeometry b
  let (geometrySet, b) ← readYesNo b
  let (locators, b) ← readVector readLocatorConfig 8 b
  let (directory, b) ← readDirectory b
  let (tracker, b) ← checked readTracker checkTracker b
  let (zones, b) ← readVector (checked readZone checkZone) 16 b
  let (governor, b) ← checked readGovernor checkGovernorArgs b
  let (discTime, b) ← checked (getNat 2) (inNatRange 20 500) b
  let (tables, b) ← readVector (readList 24 readPoint) 3 b
  let (target, b) ← readFocusTarget b
  let (mask, b) ← getNat 1 b
  let (interval, b) ← checked (getNat 2) (inNatRange 0 250) b
  let (mode, b) ← checked (getNat 1) modeOf b
  some ({ source := source, rateCode := a.rateCode, tpf := a.tpf, holdoverLimit := a.holdoverLimit
          chans := chans, routes := routes, controlTimeout := timeout, deadband := deadband
          geometry := geometry, geometrySet := geometrySet, locators := locators, directory := directory
          tracker := tracker, zones := zones, governor := governor, discTime := discTime, tables := tables
          target := target, mask := maskOf mask, interval := interval, mode := mode }, b)

/-- R43: a source within what the table of source kinds gives a channel: FOLLOW for FOCUS only, a physical value for a
lens channel only. -/
def Settings.routeOk (t : Settings) (i : Fin 10) : Bool :=
  match t.routes[i] with
  | .follow => i == focus
  | .preset _ (some _) => isLens i
  | .preset _ none | .rate _ | .position _ | .hold => true

/-- R193: the ranges of the fields whose range their channel gives: the sources of the routes (R43), and the points of
the lens tables, which R134 refuses with OUT_OF_RANGE beyond them. -/
def Settings.tablesOk (t : Settings) : Bool :=
  (List.finRange 10).all t.routeOk &&
    (List.finRange 3).all fun j => t.tables[j].isEmpty || lensTableOk j t.tables[j]

/-- R193: the settings of a good image: its format code, its length, every field's range and its CRC-32 hold. What a
request refuses for the state it finds, an address that another locator has (R75) or a FOLLOW without a FOCUS table
(R44), is no range and makes no image bad. -/
def parseImage (image : List Byte) : Option Settings := do
  let (code, b) ← getNat 2 image
  let (length, b) ← getNat 4 b
  let covered := image.take (image.length - 4)
  if code ≠ formatCode ∨ length ≠ image.length ∨ length < 10 ∨
      leNat (image.drop (image.length - 4)) ≠ (crc32 covered).toNat then none
  else do
    let t ← whole readSettings (b.take (b.length - 4))
    if t.tablesOk then some t else none

/-! ### The load end (R193) -/

/-- R193: all four arm channels are present. -/
def armsPresent (chans : Vector ChannelConfig 10) : Bool :=
  chans[0].present && chans[1].present && chans[2].present && chans[3].present

/-- R193: the mode that a good image gives. -/
def Settings.startMode (t : Settings) : Mode :=
  if t.mode = .operate ∧ t.geometrySet ∧ armsPresent t.chans then .operate else .setup

/-- R63: the Router takes its settings. -/
def Router.load (t : Settings) (r : Router) : Router :=
  { r with
    routes := Vector.ofFn fun i => ⟨t.routes[i], .own t.routes[i], false⟩
    controlTimeout := t.controlTimeout, deadband := t.deadband }

/-- R93: a locator takes its configured fields as an accepted SET LOCATOR does. -/
def LocatorConfig.load (c : LocatorConfig) (l : Locator) : Locator :=
  l.restart c.configured c.address c.optional c.window

/-- R93: the Locator Bus Controller takes its settings; a link state that changes queues a CREW report. -/
def State.loadLocators (t : Settings) (s : State) : State :=
  let locators := Vector.ofFn fun i => t.locators[i].load s.bus.locators[i]
  { s with bus := { s.bus with locators := locators } }.raiseIf
    ((List.finRange 8).any fun i => locators[i].link != s.bus.locators[i].link) .crew

/-- R145: FOCUS starts to follow when the image configures FOLLOW for it. -/
def State.loadFollow (s : State) : State :=
  if s.router.routes[focus].active = .own .follow then s.followStart else s.followStop

/-- R16, R41, R63, R73, R93, R113, R129, R145, R197: every block takes its settings from a good image. DESIGN CHOICE (log
entry 13): the image's report mask judges the reports of this event, and a report that is pending or waits already stays,
also where that mask disables its kind. -/
def State.loadSettings (t : Settings) (s : State) : State :=
  let s := s.lockEvent (TimeBase.load t.source t.rateCode t.tpf t.holdoverLimit)
  let s := (List.finRange 10).foldl (fun s i => s.configureChannel i t.chans[i]) s
  let s := { s with
    router := s.router.load t
    pose := { s.pose with geometry := t.geometry, geometrySet := t.geometrySet }
    crew := { s.crew with directory := t.directory }.setParams t.tracker
    gov := { s.gov with zones := t.zones, params := t.governor }
    stop := { s.stop with discTime := t.discTime }
    lens := { s.lens with tables := t.tables, target := t.target }
    link := { s.link with mask := t.mask, interval := t.interval, mode := t.startMode }
    store := { s.store with valid := true } }
  (s.loadLocators t).loadFollow.enforceCaps

/-- R193: the load ends bad. -/
def State.loadBad (s : State) : State :=
  { s with link := { s.link with mode := .setup }, store := { s.store with valid := false } }

/-- R193, R194: the image that a load reads: what the part last wrote into the EEPROM, and else what the
EEPROM's answer brings. -/
def Store.readImage (image : List Byte) (st : Store) : List Byte := st.eeprom.getD image

/-- R193: the load ends with an image read whole; outside STARTING no load runs. -/
def State.loadEnd (image : List Byte) (s : State) : State :=
  if s.link.mode ≠ .starting then s
  else
    match parseImage (s.store.readImage image) with
    | some t => s.loadSettings t
    | none => s.loadBad

/-- SETTINGS_LOAD_END (R193). -/
def execSettingsLoadEnd (image : List Byte) (s : State) : Host.Outcome State Fault Refusal :=
  .next (s.loadEnd image).settle

/-- LOAD_ACK_TIMEOUT (R193): the EEPROM has failed to acknowledge for 50 ms. -/
def execLoadAckTimeout (s : State) : Host.Outcome State Fault Refusal :=
  .next (if s.link.mode = .starting then s.loadBad else s).settle

/-! ### Saving (R194) -/

/-- R194, R201: the image as a save in flight has it in the EEPROM, its format code 0000h. -/
def inFlight (image : List Byte) : List Byte := 0x00#8 :: 0x00#8 :: image.drop 2

/-- R194: the store at the acceptance of a save, with the snapshot's image and the frame number. -/
def Store.beginSave (image : List Byte) (frame : Nat) (st : Store) : Store :=
  { st with save := some ⟨image, frame⟩, eeprom := some (inFlight image) }

/-- R194: the store at the end of a save: the last write has put the format code in place, or the image
stays bad. -/
def Store.endSave (ok : Bool) (v : Save) (st : Store) : Store :=
  { st with save := none, valid := ok, eeprom := if ok then some v.image else st.eeprom }

/-- SAVE SETTINGS (R194). -/
def serveSaveSettings (args : Option Unit) (s : State) : Served :=
  withPayload args s fun _ =>
    if s.saving then s.refuse .busy
    else { s with store := s.store.beginSave s.settings.image s.tb.frameNumber }.accepted

def execSaveSettings (tag : Byte) (args : Option Unit) (s : State) : Host.Outcome State Fault Refusal :=
  .next (s.accept 0x5B#8 tag (serveSaveSettings args))

/-- R194: the end of a save in flight, with its result. -/
def State.endSave (ok : Bool) (s : State) : State :=
  match s.store.save with
  | none => s
  | some v => { s with store := s.store.endSave ok v }.raise (.save ok v.frame)

def saveOk : SaveOutcome → Bool
  | .headerVerified => true
  | .notAcknowledged | .readBackDiffers => false

/-- SAVE_END (R194). -/
def execSaveEnd (outcome : SaveOutcome) (s : State) : Host.Outcome State Fault Refusal :=
  .next (s.endSave (saveOk outcome)).settle

/-- SAVE_TIMEOUT (R194): 500 ms have passed. -/
def execSaveTimeout (s : State) : Host.Outcome State Fault Refusal := .next (s.endSave false).settle

/-! ### LOCK SETTINGS (R195) -/

/-- LOCK SETTINGS (R195). -/
def serveLockSettings (args : Option Unit) (s : State) : Served :=
  withPayload args s fun _ => { s with store := { s.store with locked := true } }.accepted

def execLockSettings (tag : Byte) (args : Option Unit) (s : State) : Host.Outcome State Fault Refusal :=
  .next (s.accept 0x5C#8 tag (serveLockSettings args))

/-! ### RESTART and power-on reset (R164, R183, R196, R197) -/

/-- R183: a PLAYING Player closes its pass ABORTED. -/
def State.restartPlayer (s : State) : State :=
  if s.player.state = .playing then s.closePass .aborted else s

/-- R164: the Recorder at a RESTART; an ARMED one returns without a report (R151). -/
def State.restartRecorder (s : State) : State :=
  match s.recorder.state with
  | .idle => s
  | .recording => s.endRecording .restart
  | .armed =>
    match s.recorder.slot with
    | none => s
    | some i => { s with mem := s.mem.giveBack i }

/-- R196, R197: the Link after a RESTART, with the reports raised in it. -/
def Link.restart (l : Link) : Link :=
  { Link.initial with sending := l.sending, raised := l.raised, powerOn := l.powerOn }

/-- R196: the Store after a reset that leaves the settings lock at `locked`; the EEPROM keeps its bytes. -/
def Store.restart (locked : Bool) (st : Store) : Store :=
  { Store.initial with locked := locked, eeprom := st.eeprom }

/-- R196: every block takes its RESTART state; the Take Memory, the settings lock, the power-on flag and the
EEPROM stand. DESIGN CHOICE (log entry 23): what a RESTART only resets queues no report: no TIMEBASE report for the
lock state, no SAFETY report for the stop state, the latch or the inputs, no FAULT, CREW or FRAME report; and of the
reports of a pass and of a recording that it ends, which R164, R183 and R196 only put after the reply, the PASS report
stands before the TAKE report. -/
def State.restart (s : State) : State :=
  let t := (s.endSave false).restartPlayer.restartRecorder
  { State.reset with
    mem := t.mem, link := t.link.restart, store := t.store.restart t.store.locked
    pending := t.pending }

/-- RESTART (R196). -/
def serveRestart (args : Option Unit) (s : State) : Served :=
  withPayload args s fun _ => s.restart.accepted

def execRestart (tag : Byte) (args : Option Unit) (s : State) : Host.Outcome State Fault Refusal :=
  .next (s.accept 0x5D#8 tag (serveRestart args))

/-- POWER_ON_RESET (R197): every block's power-on state; the EEPROM keeps its bytes (R194). The commands that
wait are the environment's. -/
def execPowerOnReset (s : State) : Host.Outcome State Fault Refusal :=
  .next { State.reset with store := s.store.restart false, pending := s.pending }

end Sys2Proof.Machine
end

