-- ==== Sys2Proof/Machine/Link.lean ====
section
/-! DEFINITION. The Console Link Controller (11.1 to 11.5): reception, the request queue, acceptance,
transmission, GET STATUS, SET REPORTS, SET MODE and IDENTIFY. -/

namespace Sys2Proof.Machine

/-! ### GET STATUS and IDENTIFY (R189, R190) -/

/-- The fields of R189. -/
def State.statusFields (s : State) : List Field :=
  [u8 s.link.mode.ctorIdx, flag s.store.valid, flag s.store.locked, flag s.saving, u8 s.stop.state.ctorIdx,
    s.stop.causes.field]
  ++ s.chans.toList.map (fun c => c.faults.field)
  ++ [u8 s.tb.pubLock.ctorIdx, flag s.link.powerOn, flag s.tb.lockLost, u16 s.link.linkErrors]
  ++ s.chans.toList.map (fun c => u16 c.encoderErrors)
  ++ s.bus.locators.toList.map (fun l => u16 l.crcErrors) ++ [u16 s.tb.slipCount]

/-- GET STATUS (R189): the reply carries the flags as they stood; the power-on and lock-lost flags are
cleared. -/
def serveGetStatus (args : Option Unit) (s : State) : Served :=
  withPayload args s fun _ =>
    { s with link := { s.link with powerOn := false }, tb := { s.tb with lockLost := false } }.accepted
      s.statusFields

def execGetStatus (tag : Byte) (args : Option Unit) (s : State) : Host.Outcome State Fault Refusal :=
  .next (s.accept 0x58#8 tag (serveGetStatus args))

/-- Mbit/s (R190). -/
def mbits : LineRate → Nat
  | .one => 1
  | .two => 2
  | .three => 3

/-- IDENTIFY (R190). DESIGN CHOICE (log entry 6): the silicon revision takes 16 bits and the strapped line rate, in
Mbit/s, 1 byte. -/
def serveIdentify (args : Option Unit) (s : State) : Served :=
  withPayload args s fun _ =>
    s.accepted [nameField (partNameBytes Config.partName), u16 Config.siliconRevision, u16 formatCode,
      u8 (mbits Config.lineRate)]

def execIdentify (tag : Byte) (args : Option Unit) (s : State) : Host.Outcome State Fault Refusal :=
  .next (s.accept 0x5E#8 tag (serveIdentify args))

/-! ### SET REPORTS and SET MODE (R188, R191) -/

/-- The kind of a report, of a reply none. -/
def Message.reportKind : Message → Option ReportKind
  | .reply .. => none
  | .report k _ => some k

/-- R188: a message stays unless it is a report of a kind the mask disables. -/
def keptBy (mask : Vector Bool 8) (m : Message) : Bool :=
  match m.reportKind with
  | some k => mask[k.index]
  | none => true

/-- R188: an accepted SET REPORTS. -/
def Link.setReports (mask : Vector Bool 8) (interval : Nat) (l : Link) : Link :=
  { l with mask := mask, interval := interval, counter := 0
           out := l.out.filter (keptBy mask), waiting := l.waiting.filter (keptBy mask) }

/-- SET REPORTS (R188), its checks in order. -/
def serveSetReports (args : Option ReportsArgs) (s : State) : Served :=
  withPayload args s fun a =>
    if 250 < a.interval then s.refuse .outOfRange
    else if s.saving then s.refuse .busy
    else { s with link := s.link.setReports (maskOf a.mask) a.interval }.accepted

def execSetReports (tag : Byte) (args : Option ReportsArgs) (s : State) :
    Host.Outcome State Fault Refusal :=
  .next (s.accept 0x59#8 tag (serveSetReports args))

/-- R191: SETUP to OPERATE. -/
def State.mayOperate (s : State) : Bool :=
  s.store.valid && s.pose.geometrySet && armsPresent (Vector.ofFn fun i => s.chans[i].cfg)

/-- R191: OPERATE to SETUP. -/
def State.maySetup (s : State) : Bool :=
  s.engineIdle && s.chans[0].atRest && s.chans[1].atRest && s.chans[2].atRest && s.chans[3].atRest

/-- R191, R105: the mode changes, and a cap that begins lowers the scale. -/
def State.enterMode (m : Mode) (s : State) : State :=
  { s with link := { s.link with mode := m } }.enforceCaps

/-- SET MODE (R191). -/
def serveSetMode (args : Option Nat) (s : State) : Served :=
  withPayload args s fun n =>
    match modeOf n with
    | none => s.refuse .badFormat
    | some m =>
      if s.saving then s.refuse .busy
      else if m = s.link.mode then s.accepted
      else if m = .operate then
        if s.mayOperate then (s.enterMode m).accepted else s.refuse .wrongState
      else if s.maySetup then (s.enterMode m).accepted
      else s.refuse .busy

def execSetMode (tag : Byte) (args : Option Nat) (s : State) : Host.Outcome State Fault Refusal :=
  .next (s.accept 0x5A#8 tag (serveSetMode args))

/-! ### The requests by kind (12.1, R186, R199) -/

/-- A request whose payload a reader takes whole. -/
def served {α : Type} (serve : Option α → State → Served) (r : Reader α) (payload : List Byte) (s : State) :
    Served :=
  serve (whole r payload) s

/-- R199: the two forms a form byte selects; another value, or none, is a bad format. -/
def byForm (form0 form1 : List Byte → State → Served) (payload : List Byte) (s : State) : Served :=
  match payload with
  | [] => s.refuse .badFormat
  | f :: rest =>
    if f = 0#8 then form0 rest s else if f = 1#8 then form1 rest s else s.refuse .badFormat

/-- R199: LOAD LENS TABLE's forms are told apart by the point count. -/
def serveLensRequest (payload : List Byte) (s : State) : Served :=
  match whole readLensTable payload with
  | some ⟨channel, []⟩ => serveReadLensTable (some channel) s
  | args => serveLoadLensTable args s

/-- The request kinds of chapters 1 to 5. -/
def lowRequest (kind : Nat) (b : List Byte) : Option (State → Served) :=
  match kind with
  | 0x01 => some (served serveSetTimebase readTimebase b)
  | 0x02 => some (served serveGetTimebase noFields b)
  | 0x08 => some (served serveConfigureChannel (readIndexed readChannelArgs) b)
  | 0x09 => some (served serveGetChannel (getNat 1) b)
  | 0x0A => some (served serveEnableChannels (getNat 1) b)
  | 0x0B => some (served serveDisableChannels (getNat 2) b)
  | 0x0C => some (served serveClearFaults (getNat 2) b)
  | 0x10 => some (byForm (served serveSetRoute (readIndexed readRouteArg)) (served serveSetRouter readRouter) b)
  | 0x11 => some (served serveGetRoutes noFields b)
  | 0x12 => some (serveControlSample (readPairs b))
  | 0x18 => some (served serveSetGeometry readGeometry b)
  | 0x19 => some (served serveGetPose noFields b)
  | 0x20 => some (served serveSetLocator readLocator b)
  | 0x21 => some (byForm (served serveSetTag readTag) (served serveSetTracker readTracker) b)
  | 0x22 => some (served serveRemoveTag (getNat 2) b)
  | 0x23 => some (served serveGetCrew readPart b)
  | 0x24 => some (served serveClearCrew (getNat 2) b)
  | _ => none

/-- The request kinds of chapters 6 to 8. -/
def middleRequest (kind : Nat) (b : List Byte) : Option (State → Served) :=
  match kind with
  | 0x28 => some (served serveSetZone (readIndexed readZone) b)
  | 0x29 => some (byForm (served serveSetGovernor readGovernor) (served serveSetDiscrepancyTime (getNat 2)) b)
  | 0x2A => some (served serveResume noFields b)
  | 0x30 => some (served serveResetStop noFields b)
  | 0x31 => some (served serveStartSafetyTest readSafetyTest b)
  | 0x32 => some (served serveGetSafety readPart b)
  | 0x38 => some (serveLensRequest b)
  | 0x39 => some (served serveSetFocusTarget readFocus b)
  | _ => none

/-- The request kinds of chapters 9 to 11. -/
def highRequest (kind : Nat) (b : List Byte) : Option (State → Served) :=
  match kind with
  | 0x40 => some (served serveRecord readRecord b)
  | 0x41 => some (served serveStopRecord noFields b)
  | 0x42 => some (served serveCreateTake readCreateTake b)
  | 0x43 => some (served serveWriteTakeData readWriteTake b)
  | 0x44 => some (served serveCloseTake (getNat 1) b)
  | 0x45 => some (served serveReadTakeData readReadTake b)
  | 0x46 => some (served serveEraseTake (getNat 1) b)
  | 0x47 => some (served serveSetTakeAccess readAccess b)
  | 0x48 => some (served serveGetDirectory readDirectoryPart b)
  | 0x49 => some (served serveGetPasses (getNat 2) b)
  | 0x50 => some (served serveCue readCue b)
  | 0x51 => some (served serveRoll noFields b)
  | 0x52 => some (served serveAbortPlay noFields b)
  | 0x53 => some (served serveRelease noFields b)
  | 0x58 => some (served serveGetStatus noFields b)
  | 0x59 => some (served serveSetReports readReports b)
  | 0x5A => some (served serveSetMode (getNat 1) b)
  | 0x5B => some (served serveSaveSettings noFields b)
  | 0x5C => some (served serveLockSettings noFields b)
  | 0x5D => some (served serveRestart noFields b)
  | 0x5E => some (served serveIdentify noFields b)
  | _ => none

/-- The handler of a request kind (12.1); none for a kind that names no request. -/
def requestHandler (kind : Byte) (payload : List Byte) : Option (State → Served) :=
  ((lowRequest kind.toNat payload).orElse fun _ => middleRequest kind.toNat payload).orElse fun _ =>
    highRequest kind.toNat payload

/-- R186: a kind that names no request is answered UNKNOWN_KIND in every mode. -/
def State.serveRequest (r : Request) (s : State) : Served :=
  match requestHandler r.kind r.payload with
  | none => s.refuse .unknownKind
  | some handler => s.serveBy r.kind handler

/-- R185: the oldest waiting frame is served whole, once a reply place is free. -/
def State.acceptOldest (s : State) : State :=
  match s.link.requests with
  | [] => s
  | r :: rest =>
    if s.link.replyPlaceFree then
      let v := { s with link := { s.link with requests := rest } }.serveRequest r
      (v.state.queueReply r.kind r.tag v.result v.fields).settle
    else s

/-- REQUEST_ACCEPTANCE (R185). -/
def execRequestAcceptance (s : State) : Host.Outcome State Fault Refusal := .next s.acceptOldest

/-! ### Reception (R184, R185) -/

/-- R185: a valid frame joins the request queue, is answered BUSY, or is dropped. -/
def Link.takeRequest (r : Request) (l : Link) : Link :=
  if l.requests.length < 8 then { l with requests := l.requests ++ [r] }
  else if l.replyPlaceFree then { l with out := l.out ++ [.reply r.kind r.tag .busy []] }
  else { l with linkErrors := bump 1023 l.linkErrors }

/-- R184: what stands at an SYNC. -/
inductive FrameCheck where
  /-- more bytes are to come -/
  | partial_
  /-- the frame is discarded: its length or its CRC -/
  | discard
  | valid (r : Request) (rest : List Byte)
  deriving DecidableEq, Repr

/-- R184, R199: the bytes after a SYNC, judged as a frame. -/
def checkFrame (b : List Byte) : FrameCheck :=
  match b with
  | [] => .partial_
  | length :: _ =>
    let n := length.toNat
    let covered := b.take (n + 3)
    if 248 < n then .discard
    else if b.length < n + 5 then .partial_
    else if leNat ((b.drop (n + 3)).take 2) ≠ (crc16 covered).toNat then .discard
    else .valid ⟨covered.getD 1 0, covered.getD 2 0, covered.drop 3⟩ (b.drop (n + 5))

/-- R184: the hunt over bytes; the number bounds the bytes passed. -/
def Link.hunt : Nat → List Byte → Link → Link
  | 0, b, l => { l with rx := b }
  | _ + 1, [], l => { l with rx := [] }
  | k + 1, x :: rest, l =>
    if x = sync then
      match checkFrame rest with
      | .partial_ => { l with rx := x :: rest }
      | .discard => Link.hunt k rest { l with linkErrors := bump 1023 l.linkErrors }
      | .valid r after => Link.hunt k after (l.takeRequest r)
    else Link.hunt k rest l

/-- R184: the hunt over bytes to their end. -/
def Link.examine (b : List Byte) (l : Link) : Link := l.hunt (b.length + 1) b

/-- R184: received bytes join those of the frame in progress. -/
def Link.receive (b : List Byte) (l : Link) : Link := l.examine (l.rx ++ b)

/-- FRAME_RECEIVED (R184, R185). -/
def execFrameReceived (bytes : List Byte) (s : State) : Host.Outcome State Fault Refusal :=
  .next { s with link := s.link.receive bytes }.settle

/-- R184: 3 ms after its SYNC the frame in progress is discarded, and the hunt resumes after the SYNC. -/
def Link.timeOut (l : Link) : Link :=
  match l.rx with
  | [] => l
  | _ :: rest => { l with linkErrors := bump 1023 l.linkErrors }.examine rest

/-- FRAME_TIMEOUT (R184): the bytes that had arrived, then the expiry. -/
def execFrameTimeout (bytes : List Byte) (s : State) : Host.Outcome State Fault Refusal :=
  .next { s with link := (s.link.receive bytes).timeOut }.settle

/-- FRAME_LENGTH_DISCARD (R184): the length byte of a frame; a receiver that hunts sees its SYNC first. -/
def execFrameLengthDiscard (length : Byte) (s : State) : Host.Outcome State Fault Refusal :=
  .next { s with link := s.link.receive (if s.link.rx.isEmpty then [sync, length] else [length]) }.settle

/-! ### Transmission (R187) -/

/-- R187: the message in transmission is out; a report that waited for its place is queued. -/
def Link.sent (l : Link) : Link :=
  match l.sending with
  | none => l
  | some _ => { l with sending := none, out := l.out ++ l.waiting, waiting := [] }

/-- MESSAGE_SENT (R187): the last byte of the message in transmission has gone out. -/
def execMessageSent (s : State) : Host.Outcome State Fault Refusal :=
  .next { s with link := s.link.sent }.settle

/-! ### The FRAME report (R188) -/

/-- R188: the FRAME counter's boundary reaches the interval. -/
def Link.frameReportDue (l : Link) : Bool := 0 < l.interval && l.interval ≤ l.counter + 1

/-- The Link's work at a frame boundary (R188). -/
def State.frameCounter (s : State) : State :=
  if s.link.interval = 0 then s
  else if s.link.frameReportDue then { s with link := { s.link with counter := 0 } }.raise .frame
  else { s with link := { s.link with counter := s.link.counter + 1 } }

end Sys2Proof.Machine
end

