-- ==== Sys2Proof/Machine/Ticks.lean ====
section
/-! DEFINITION. The tick and the frame boundary among all blocks, and the events that stand for a threshold
which a tick or a boundary reaches. -/

namespace Sys2Proof.Machine

/-! ### The parts of a tick -/

/-- A present channel issues its read at a tick (R22). -/
def Channel.issueRead (c : Channel) : Channel := { c with readPending := c.cfg.present }

/-- R62: the overspeed mark of the frame just ended. -/
def Channel.turnFrame (c : Channel) : Channel := { c with overspeedLast := c.overspeed, overspeed := false }

/-- What a boundary publishes of the frame just ended, before its tick's work (R62, R106, R115). -/
def State.turnFrame (s : State) : State := (s.turnFigures.turnMark).mapChans fun _ c => c.turnFrame

/-- The Time Base's tick (R1). -/
def State.timebaseTick (boundary : Bool) (s : State) : State :=
  s.lockEvent (if boundary then TimeBase.boundary else TimeBase.tick)

/-- R126: the Governor's computation and a test's boundary, in the order the event takes them. -/
def State.governorAndTest (inp : TickInputs) (boundary : Bool) (s : State) : State :=
  let test (s : State) := if boundary then s.testBoundary else s
  if inp.testEndFirst then (test s).governorTick inp.guardsTripped boundary
  else test (s.governorTick inp.guardsTripped boundary)

/-- The frame work that comes last at a boundary (R76, R151, R188). -/
def State.boundaryWork (s : State) : State := (s.recorderBoundary.startRound).frameCounter

/-- A tick (R1), in the order in which each block reads what its owner published at it. The Lens Unit comes before
EMERGENCY and the Player let go of FOCUS: a follow record that starts at a tick is decided at the next (R138). -/
def State.tickOf (inp : TickInputs) (boundary : Bool) (s : State) : State :=
  let free := s.player.cueFlag
  let s := s.timebaseTick boundary
  let s := (if boundary then s.turnFrame else s).controlTick.poseTick
  let s := (s.governorAndTest inp boundary).lensTick.supervisorTick inp
  let s := s.playerTick inp.cueTimerFirst free boundary
  (if boundary then s.boundaryWork else s).mapChans fun _ c => c.issueRead

/-- The next tick: the frame boundary where it is due. -/
def State.tick (inp : TickInputs) (s : State) : State := s.tickOf inp s.tb.boundaryDue

/-! ### The events -/

/-- TICK (R1). -/
def execTick (inp : TickInputs) (s : State) : Host.Outcome State Fault Refusal :=
  .next (s.tick inp).settle

/-- FRAME_BOUNDARY (R1): the tick at which a frame boundary is due. -/
def execFrameBoundary (inp : TickInputs) (s : State) : Host.Outcome State Fault Refusal :=
  .next (s.whenDue s.tb.boundaryDue fun s => s.tick inp).settle

/-- R11: the next tick is the boundary at which the holdover counter reaches its limit. -/
def TimeBase.holdoverDue (tb : TimeBase) : Bool :=
  tb.started && tb.boundaryDue && !tb.acquireDue && tb.lock == .holdover && tb.holdoverLimit ≤ tb.holdoverCount + 1

/-- HOLDOVER_LIMIT_REACHED (R11). -/
def execHoldoverLimitReached (inp : TickInputs) (s : State) : Host.Outcome State Fault Refusal :=
  .next (s.whenDue s.tb.holdoverDue fun s => s.tick inp).settle

/-- R49: the next tick makes a control input stale. -/
def State.staleDue (k : Fin 12) (s : State) : Bool :=
  !s.router.controls[k].stale && s.controlTicks < bump 65535 s.router.controls[k].age

/-- CONTROL_INPUT_STALE (R49). -/
def execControlInputStale (k : Fin 12) (inp : TickInputs) (s : State) : Host.Outcome State Fault Refusal :=
  .next (s.whenDue (s.staleDue k) fun s => s.tick inp).settle

/-- DISCREPANCY_TIME_EXCEEDED (R117). -/
def execDiscrepancyTimeExceeded (inp : TickInputs) (s : State) : Host.Outcome State Fault Refusal :=
  .next (s.whenDue (s.discrepancyDue inp) fun s => s.tick inp).settle

/-- R126: the next tick is the boundary at which the frames remaining reach 0. -/
def State.testEndDue (s : State) : Bool := s.tb.boundaryDue && s.testRunning && s.stop.test.remaining ≤ 1

/-- SAFETY_TEST_END (R126). -/
def execSafetyTestEnd (inp : TickInputs) (s : State) : Host.Outcome State Fault Refusal :=
  .next (s.whenDue s.testEndDue fun s => s.tick inp).settle

/-- RECORD_FRAME_LIMIT (R154). -/
def execRecordFrameLimit (inp : TickInputs) (s : State) : Host.Outcome State Fault Refusal :=
  .next (s.whenDue (s.tb.boundaryDue && s.recordLimitDue) fun s => s.tick inp).settle

/-- CUE_TIMEOUT (R169): the boundary, with the timer taken first. -/
def execCueTimeout (inp : TickInputs) (s : State) : Host.Outcome State Fault Refusal :=
  .next (s.whenDue (s.tb.boundaryDue && s.cueTimeoutDue) fun s =>
    s.tick { inp with cueTimerFirst := true }).settle

/-- FRAME_REPORT_DUE (R188). -/
def execFrameReportDue (inp : TickInputs) (s : State) : Host.Outcome State Fault Refusal :=
  .next (s.whenDue (s.tb.boundaryDue && s.link.frameReportDue) fun s => s.tick inp).settle

end Sys2Proof.Machine
end

