-- ==== Sys2Proof/Machine/Dispatch.lean ====
section
/-! DEFINITION. One arm per command, in the order of the table: each is one call of the command's meaning. -/

namespace Sys2Proof.Machine

def exec (i : Instr) (s : State) : Host.Outcome State Fault Refusal :=
  match i with
  | .powerOnReset => Sys2Proof.Machine.execPowerOnReset s
  | .tick inp => Sys2Proof.Machine.execTick inp s
  | .frameBoundary inp => Sys2Proof.Machine.execFrameBoundary inp s
  | .referencePulse dt => Sys2Proof.Machine.execReferencePulse dt s
  | .pulseWindowClose => Sys2Proof.Machine.execPulseWindowClose s
  | .noPulseAfterEntry dt => Sys2Proof.Machine.execNoPulseAfterEntry dt s
  | .holdoverLimitReached inp => Sys2Proof.Machine.execHoldoverLimitReached inp s
  | .encoderAnswer ch bytes lines => Sys2Proof.Machine.execEncoderAnswer ch bytes lines s
  | .encoderReadWindowClose ch lines => Sys2Proof.Machine.execEncoderReadWindowClose ch lines s
  | .brakeTimerExpiry ch read lines => Sys2Proof.Machine.execBrakeTimerExpiry ch read lines s
  | .parkDelayReached ch read lines => Sys2Proof.Machine.execParkDelayReached ch read lines s
  | .controlInputStale k inp => Sys2Proof.Machine.execControlInputStale k inp s
  | .pollSent => Sys2Proof.Machine.execPollSent s
  | .locatorAnswer bytes => Sys2Proof.Machine.execLocatorAnswer bytes s
  | .locatorAnswerWindowClose => Sys2Proof.Machine.execLocatorAnswerWindowClose s
  | .discrepancyTimeExceeded inp => Sys2Proof.Machine.execDiscrepancyTimeExceeded inp s
  | .safetyTestEnd inp => Sys2Proof.Machine.execSafetyTestEnd inp s
  | .recordFrameLimit inp => Sys2Proof.Machine.execRecordFrameLimit inp s
  | .cueTimeout inp => Sys2Proof.Machine.execCueTimeout inp s
  | .frameReportDue inp => Sys2Proof.Machine.execFrameReportDue inp s
  | .frameReceived bytes => Sys2Proof.Machine.execFrameReceived bytes s
  | .frameTimeout bytes => Sys2Proof.Machine.execFrameTimeout bytes s
  | .requestAcceptance => Sys2Proof.Machine.execRequestAcceptance s
  | .messageSent => Sys2Proof.Machine.execMessageSent s
  | .settingsLoadEnd image => Sys2Proof.Machine.execSettingsLoadEnd image s
  | .loadAckTimeout => Sys2Proof.Machine.execLoadAckTimeout s
  | .saveEnd outcome => Sys2Proof.Machine.execSaveEnd outcome s
  | .saveTimeout => Sys2Proof.Machine.execSaveTimeout s
  | .setTimebase tag args => Sys2Proof.Machine.execSetTimebase tag args s
  | .getTimebase tag args => Sys2Proof.Machine.execGetTimebase tag args s
  | .configureChannel tag args => Sys2Proof.Machine.execConfigureChannel tag args s
  | .getChannel tag args => Sys2Proof.Machine.execGetChannel tag args s
  | .enableChannels tag args => Sys2Proof.Machine.execEnableChannels tag args s
  | .disableChannels tag args => Sys2Proof.Machine.execDisableChannels tag args s
  | .clearFaults tag args => Sys2Proof.Machine.execClearFaults tag args s
  | .setRoute tag args => Sys2Proof.Machine.execSetRoute tag args s
  | .setRouteRouterForm tag args => Sys2Proof.Machine.execSetRouteRouterForm tag args s
  | .getRoutes tag args => Sys2Proof.Machine.execGetRoutes tag args s
  | .controlSample tag args => Sys2Proof.Machine.execControlSample tag args s
  | .setGeometry tag args => Sys2Proof.Machine.execSetGeometry tag args s
  | .getPose tag args => Sys2Proof.Machine.execGetPose tag args s
  | .setLocator tag args => Sys2Proof.Machine.execSetLocator tag args s
  | .setTag tag args => Sys2Proof.Machine.execSetTag tag args s
  | .setTagTrackerForm tag args => Sys2Proof.Machine.execSetTagTrackerForm tag args s
  | .removeTag tag args => Sys2Proof.Machine.execRemoveTag tag args s
  | .getCrew tag args => Sys2Proof.Machine.execGetCrew tag args s
  | .clearCrew tag args => Sys2Proof.Machine.execClearCrew tag args s
  | .setZone tag args => Sys2Proof.Machine.execSetZone tag args s
  | .setGovernor tag args => Sys2Proof.Machine.execSetGovernor tag args s
  | .setGovernorStopForm tag args => Sys2Proof.Machine.execSetGovernorStopForm tag args s
  | .resume tag args => Sys2Proof.Machine.execResume tag args s
  | .resetStop tag args => Sys2Proof.Machine.execResetStop tag args s
  | .startSafetyTest tag args => Sys2Proof.Machine.execStartSafetyTest tag args s
  | .getSafety tag args => Sys2Proof.Machine.execGetSafety tag args s
  | .loadLensTable tag args => Sys2Proof.Machine.execLoadLensTable tag args s
  | .loadLensTableReadForm tag args => Sys2Proof.Machine.execLoadLensTableReadForm tag args s
  | .setFocusTarget tag args => Sys2Proof.Machine.execSetFocusTarget tag args s
  | .record tag args => Sys2Proof.Machine.execRecord tag args s
  | .stopRecord tag args => Sys2Proof.Machine.execStopRecord tag args s
  | .createTake tag args => Sys2Proof.Machine.execCreateTake tag args s
  | .writeTakeData tag args => Sys2Proof.Machine.execWriteTakeData tag args s
  | .closeTake tag args => Sys2Proof.Machine.execCloseTake tag args s
  | .readTakeData tag args => Sys2Proof.Machine.execReadTakeData tag args s
  | .eraseTake tag args => Sys2Proof.Machine.execEraseTake tag args s
  | .setTakeAccess tag args => Sys2Proof.Machine.execSetTakeAccess tag args s
  | .getDirectory tag args => Sys2Proof.Machine.execGetDirectory tag args s
  | .getPasses tag args => Sys2Proof.Machine.execGetPasses tag args s
  | .cue tag args => Sys2Proof.Machine.execCue tag args s
  | .roll tag args => Sys2Proof.Machine.execRoll tag args s
  | .abortPlay tag args => Sys2Proof.Machine.execAbortPlay tag args s
  | .release tag args => Sys2Proof.Machine.execRelease tag args s
  | .getStatus tag args => Sys2Proof.Machine.execGetStatus tag args s
  | .setReports tag args => Sys2Proof.Machine.execSetReports tag args s
  | .setMode tag args => Sys2Proof.Machine.execSetMode tag args s
  | .saveSettings tag args => Sys2Proof.Machine.execSaveSettings tag args s
  | .lockSettings tag args => Sys2Proof.Machine.execLockSettings tag args s
  | .restart tag args => Sys2Proof.Machine.execRestart tag args s
  | .identify tag args => Sys2Proof.Machine.execIdentify tag args s
  | .frameLengthDiscard length => Sys2Proof.Machine.execFrameLengthDiscard length s

end Sys2Proof.Machine
end

