-- ==== Sys2Proof/Safety.lean ====
section
/-! DEFINITION. The laws of the 760: what the rules say of every state between two events, in the terms the
statements use; and the words in which statements speak of replies and reports. -/

namespace Sys2Proof.Machine

/-! ### The scale and the take clock -/

/-- R105: the published scale lies in 0..1024, is 0 while the latch is set, and is at most creep while a cap
stands. -/
abbrev ScaleLaw (s : State) : Prop :=
  s.gov.scale ≤ 1024 ∧ s.gov.params.creep ≤ 256 ∧ (s.gov.latch.isSet → s.gov.scale = 0) ∧
  (s.capStands → s.gov.scale ≤ s.gov.params.creep)

/-- R173: while a pass plays, the take clock and the lag make up 1024 for each tick since the roll. -/
abbrev ClockLaw (s : State) : Prop :=
  ScaleLaw s ∧ s.player.rate ≤ 1024 ∧ s.player.ticks ≤ 4294967295 ∧
  (s.player.state = .playing → s.player.clock + s.player.lag = 1024 * s.player.ticks)

/-! ### Take Memory and Take Engine -/

/-- R148: each of the 1024 blocks is in the free list once or in one chain once. -/
abbrev BlockLaw (s : State) : Prop :=
  (s.mem.free ++ s.mem.slots.toList.flatMap Slot.chain).Perm (List.range 1024) ∧
  ∀ i : Fin 32, s.mem.slots[i].state = .empty → s.mem.slots[i].chain = []

/-- Take memory is held in its canonical form. -/
abbrev CellsLaw (s : State) : Prop := cellsWf s.mem.cells = true

/-- R149: what a slot's state says of its set, frame count and chain. -/
abbrev SlotLaw (sl : Slot) : Prop :=
  (sl.state = .empty → sl = Slot.empty) ∧
  (sl.state ≠ .empty → sl.set ≠ [] ∧ sl.set.Pairwise (· < ·)) ∧
  (sl.state = .recording →
    sl.frames ≤ 65534 ∧ sl.chain.length = max 1 (blocksNeeded sl.set.length sl.frames)) ∧
  (sl.state = .loading ∨ sl.state = .ready →
    2 ≤ sl.frames ∧ sl.frames ≤ 65535 ∧ sl.chain.length = blocksNeeded sl.set.length sl.frames) ∧
  (sl.state = .loading → sl.written ≤ sl.streamLength)

/-- R165: the Player holds a READY slot with PLAY set exactly while it is not IDLE, and a pass record exactly
while it is PLAYING. -/
abbrev PlayerLaw (s : State) : Prop :=
  (s.player.slot = none ↔ s.player.state = .idle) ∧
  (∀ i : Fin 32, s.player.slot = some i → s.mem.slots[i].state = .ready ∧ s.mem.slots[i].play = true) ∧
  (s.player.pass.isSome ↔ s.player.state = .playing) ∧ ∀ r ∈ s.player.pass, s.player.slot = some r.slot

/-- R150, R151: the Recorder holds a RECORDING slot exactly while it is not IDLE, and no other slot is
RECORDING; an ARMED AT_ROLL Recorder waits on a CUED Player. -/
abbrev RecorderLaw (s : State) : Prop :=
  (s.recorder.slot = none ↔ s.recorder.state = .idle) ∧
  (∀ i : Fin 32, s.recorder.slot = some i ↔ s.mem.slots[i].state = .recording) ∧
  (s.recorder.state = .armed → s.recorder.startKind = .atRoll → s.player.state = .cued)

/-- R149 to R151, R160, R165: the Take Engine and the directory agree. -/
abbrev EngineLaw (s : State) : Prop :=
  (∀ i : Fin 32, SlotLaw s.mem.slots[i]) ∧ PlayerLaw s ∧ RecorderLaw s

/-! ### Channels and routes -/

/-- R25, R58 to R60: with the drive enabled the demand lies within the soft limits; the velocity lies within
±vmax, and is 0 outside ACTIVE and the ramp of STOPPING; and in STARTING every channel is absent and DISABLED
(R41). -/
abbrev DriveLaw (s : State) : Prop :=
  (s.link.mode = .starting → ∀ i : Fin 10, s.chans[i].cfg.present = false ∧ s.chans[i].state = .disabled) ∧
  ∀ i : Fin 10,
    let c := s.chans[i]
    c.cfg.softMin < c.cfg.softMax ∧ 1 ≤ c.cfg.vmax ∧ -c.cfg.vmax ≤ c.v ∧ c.v ≤ c.cfg.vmax ∧
    (c.driveEnable → c.cfg.softMin * 256 ≤ c.p ∧ c.p ≤ c.cfg.softMax * 256) ∧
    (c.state ≠ .active → ¬(c.state = .stopping ∧ c.phase = .ramp) → c.v = 0)

/-- R42, R45, R46, R53: the Player holds exactly the channels of its slot; every other channel's active source
is its configured one; and an armed channel is on a control input, in a state that may stand armed. -/
abbrev RouteLaw (s : State) : Prop :=
  (s.link.mode = .starting → s.player.state = .idle ∧ s.recorder.state = .idle) ∧
  ∀ i : Fin 10,
    (s.router.routes[i].held = true ↔ i ∈ s.heldSet) ∧
    (s.router.routes[i].held = false → s.router.routes[i].active = .own s.router.routes[i].configured) ∧
    (s.router.routes[i].armed →
      s.router.routes[i].active.input.isSome ∧ s.chans[i].state.disarms = false)

/-- R44: the FOCUS table is loaded while FOLLOW stands for FOCUS. A settings image may hold FOLLOW without a table. -/
abbrev FollowTableLaw (s : State) : Prop :=
  s.router.routes[focus].configured = .follow ∨ s.router.routes[focus].active = .own .follow → s.lens.tables[1] ≠ []

/-- R43, R138: only FOCUS may follow, and the follow state is INACTIVE exactly while it does not. -/
abbrev FollowLaw (s : State) : Prop :=
  (∀ i : Fin 10, i ≠ focus →
    s.router.routes[i].configured ≠ .follow ∧ s.router.routes[i].active ≠ .own .follow) ∧
  (s.lens.follow.state = .inactive ↔ s.router.routes[focus].active ≠ .own .follow)

/-! ### The crew table -/

/-- R79: the tag directory. -/
abbrev DirectoryLaw (c : CrewTracker) : Prop :=
  c.directory.length ≤ 64 ∧ c.directory.Pairwise (fun a b => a.tagId < b.tagId) ∧
  (∀ t ∈ c.directory, 1 ≤ t.tagId ∧ t.tagId ≤ 65534 ∧ t.role ≠ .test ∧ 100 ≤ t.baseRadius ∧
    t.baseRadius ≤ 3000) ∧
  3000 ≤ c.params.lostCap ∧ 100 ≤ c.params.defaultRadius ∧ c.params.defaultRadius ≤ 3000 ∧
  0 ≤ c.params.growth

/-- R82, R88: the crew table. -/
abbrev CrewLaw (s : State) : Prop :=
  DirectoryLaw s.crew ∧ s.crew.table.length ≤ 24 ∧ (s.crew.table.map CrewEntry.tagId).Nodup ∧
  ∀ e ∈ s.crew.table,
    100 ≤ e.baseRadius ∧ e.baseRadius ≤ 3000 ∧ e.baseRadius ≤ e.radius ∧ e.radius ≤ s.crew.params.lostCap ∧
    (e.role = .test ↔ e.tagId = 65535) ∧ (e.role = .test → s.stop.test.state = .running)

/-! ### The stop state -/

/-- R114, R122: the stop state is the one the cause set gives, and LATCH mirrors the protective latch. -/
abbrev CauseLaw (s : State) : Prop :=
  s.stop.state = s.stop.causes.stopState ∧ s.stop.causes.latch = s.gov.latch.isSet

/-- R120: the arm-fault set holds the FAULTED arm channels, and while it holds one ARM_FAULT stands. -/
abbrev ArmFaultLaw (s : State) : Prop :=
  ∀ k : Fin 4,
    (s.stop.armFaults[k] = true ↔ (s.chans[k.val]'(by omega)).state = .faulted) ∧
    (s.stop.armFaults[k] = true → s.stop.causes.armFault = true)

/-- R35, R151, R180: what EMERGENCY leaves no room for. -/
abbrev EmergencyLaw (s : State) : Prop :=
  s.stop.state = .emergency →
    s.player.state = .idle ∧ s.recorder.state = .idle ∧
    ∀ i : Fin 10, s.chans[i].state = .disabled ∨ s.chans[i].state = .stopping ∨ s.chans[i].state = .faulted

abbrev StopLaw (s : State) : Prop := CauseLaw s ∧ ArmFaultLaw s ∧ EmergencyLaw s

/-! ### The queues of the console link -/

/-- The pending reports of a kind. -/
def Link.pendingOf (l : Link) (k : ReportKind) : Nat := (l.out.filter (Message.isReportOf k)).length

/-- R185, R187: the request queue holds at most 8 frames, the output queue at most 8 replies and one report of
each kind, the message in transmission counted; a report waits only for the place of the one in transmission;
and an idle line leaves nothing pending. -/
abbrev QueueLaw (s : State) : Prop :=
  let l := s.link
  l.requests.length ≤ 8 ∧ l.replyPlacesUsed ≤ 8 ∧ l.raised = [] ∧ l.waiting.length ≤ 1 ∧
  (l.sending = none → l.out = [] ∧ l.waiting = []) ∧
  (∀ m ∈ l.waiting, ∃ k ∈ m.reportKind, (l.sending.any (Message.isReportOf k)) = true) ∧
  ∀ k ∈ [ReportKind.frame, .safety, .take, .pass, .crew, .timebase, .fault, .save],
    l.pendingOf k + (if l.sending.any (Message.isReportOf k) then 1 else 0) ≤ 1

/-! ### The settings -/

/-- A number that fits a signed 32-bit field. -/
abbrev fits (v : Int) : Prop := -2147483648 ≤ v ∧ v ≤ 2147483647

/-- 2.2: a channel configuration within its ranges. -/
abbrev ChannelConfig.Valid (c : ChannelConfig) : Prop :=
  fits c.zeroOffset ∧ 1 ≤ c.multiplier ∧ c.multiplier ≤ 2147483647 ∧ fits c.softMin ∧ fits c.softMax ∧
  c.softMin < c.softMax ∧ 1 ≤ c.vmax ∧ c.vmax ≤ 16777216 ∧ 1 ≤ c.accel ∧ c.accel ≤ c.vmax ∧
  c.accel ≤ c.stopDecel ∧ c.stopDecel ≤ 16777216 ∧ 1 ≤ c.followingLimit ∧ c.followingLimit ≤ 1048576 ∧
  c.parkDelay ≤ 1000 ∧ c.releaseTime ≤ 1000 ∧ c.engageTime ≤ 1000 ∧ 0 ≤ c.pickupWindow ∧
  c.pickupWindow ≤ 1048576

/-- R43: the numbers of a source fit their fields. -/
def RouteSource.Valid : RouteSource → Prop
  | .preset counts physical => fits counts ∧ ∀ v ∈ physical, fits v
  | .rate _ | .position _ | .hold | .follow => True

/-- 4.1: the geometry record within its ranges. -/
abbrev Geometry.Valid (g : Geometry) : Prop :=
  -1000000 ≤ g.x0 ∧ g.x0 ≤ 1000000 ∧ -1000000 ≤ g.y0 ∧ g.y0 ≤ 1000000 ∧ 0 ≤ g.h ∧ g.h ≤ 10000 ∧
  0 ≤ g.l0 ∧ g.l0 ≤ 20000 ∧ 1000 ≤ g.crewCeiling ∧ g.crewCeiling ≤ 4000

/-- 5.3: the tracker parameters within their ranges. -/
abbrev TrackerParams.Valid (p : TrackerParams) : Prop :=
  p.minQuality ≤ 15 ∧ 1 ≤ p.staleAfter ∧ p.staleAfter ≤ 10 ∧ 10 ≤ p.lostAfter ∧ p.lostAfter ≤ 500 ∧
  0 ≤ p.growth ∧ p.growth ≤ 500 ∧ 3000 ≤ p.lostCap ∧ p.lostCap ≤ 10000 ∧ 100 ≤ p.defaultRadius ∧
  p.defaultRadius ≤ 3000

/-- 6.1: a zone within its ranges. -/
abbrev Zone.Valid (z : Zone) : Prop :=
  -1000000 ≤ z.xmin ∧ z.xmin ≤ z.xmax ∧ z.xmax ≤ 1000000 ∧ -1000000 ≤ z.ymin ∧ z.ymin ≤ z.ymax ∧
  z.ymax ≤ 1000000 ∧ 0 ≤ z.ceiling ∧ z.ceiling ≤ 20000 ∧ 0 ≤ z.clearance ∧ z.clearance ≤ 5000

/-- 6.3: the governor parameters within their ranges. -/
abbrev GovernorParams.Valid (p : GovernorParams) : Prop :=
  300 ≤ p.clearance ∧ p.clearance ≤ 5000 ∧ 500 ≤ p.slowBand ∧ p.slowBand ≤ 10000 ∧ 200 ≤ p.decel ∧
  p.decel ≤ 5000 ∧ p.creep ≤ 256 ∧ 1 ≤ p.scaleRise ∧ p.scaleRise ≤ 1024

/-- 8.4: the focus target record within its ranges. -/
abbrev FocusTarget.Valid (t : FocusTarget) : Prop :=
  fits t.x ∧ fits t.y ∧ fits t.z ∧ focusTargetOk t = true

/-- R75: configured locators have distinct addresses. A settings image may hold two that share one. -/
abbrev AddressLaw (s : State) : Prop :=
  ∀ i j : Fin 8, i ≠ j → s.bus.locators[i].configured = true → s.bus.locators[j].configured = true →
    s.bus.locators[i].address ≠ s.bus.locators[j].address

/-- The command that comes next is the end of a settings load, which takes what its image holds. -/
abbrev State.loadsNext (s : State) : Prop := ∃ image, s.pending.head? = some (.settingsLoadEnd image)

/-- Every setting of R192 lies within the range its owning chapter gives, and the tag directory ascends (R79). -/
abbrev Settings.Valid (t : Settings) : Prop :=
  t.rateCode ≤ 7 ∧ tickRateOk t.rateCode t.tpf = true ∧ 10 ≤ t.holdoverLimit ∧ t.holdoverLimit ≤ 250 ∧
  (∀ i : Fin 10, t.chans[i].Valid) ∧ (∀ i : Fin 10, t.routes[i].Valid) ∧
  50 ≤ t.controlTimeout ∧ t.controlTimeout ≤ 1000 ∧ t.deadband ≤ 2048 ∧ t.geometry.Valid ∧
  (∀ i : Fin 8, 1 ≤ t.locators[i].address ∧ t.locators[i].address ≤ 254 ∧ 400 ≤ t.locators[i].window ∧
    t.locators[i].window ≤ 1800) ∧
  t.directory.length ≤ 64 ∧ t.directory.Pairwise (fun a b => a.tagId < b.tagId) ∧
  (∀ e ∈ t.directory, 1 ≤ e.tagId ∧ e.tagId ≤ 65534 ∧ e.role ≠ .test ∧ 100 ≤ e.baseRadius ∧
    e.baseRadius ≤ 3000) ∧
  t.tracker.Valid ∧ (∀ i : Fin 16, t.zones[i].Valid) ∧ t.governor.Valid ∧ 20 ≤ t.discTime ∧ t.discTime ≤ 500 ∧
  t.target.Valid ∧ t.interval ≤ 250 ∧ t.tablesOk = true

/-! ### Words for statements -/

/-- Between two events, out of STARTING, with a reply place free: a request that the Link hands on is served. -/
abbrev Serving (s : State) : Prop :=
  s.link.raised = [] ∧ s.link.replyPlaceFree = true ∧ s.link.mode ≠ .starting

/-- The Link with a reply joined at the tail of its output queue, and an idle line beginning the oldest
message (R187): what an event that raises no report leaves. -/
def Link.answered (l : Link) (kind tag : Byte) (result : Result) (fields : List Field) : Link :=
  { l with out := l.out ++ [Message.reply kind tag result fields] }.startSending

/-- A message has its place in the output queue: it is pending, in transmission, or waits for the place of the
report in transmission (R187). -/
abbrev Link.carries (l : Link) (m : Message) : Prop := m ∈ l.out ∨ l.sending = some m ∨ m ∈ l.waiting

/-- A report raised in the event that led to a state has its place in the output queue with the content it reads
off that state, unless the mask disables its kind (R187). -/
abbrev State.reports (t : State) (r : Raise) : Prop :=
  t.link.mask[r.kind.index] = true → t.link.carries (.report r.kind (r.fields t))

/-- Nothing of the Link but its output side differs. -/
abbrev Link.sameInput (l l' : Link) : Prop :=
  l'.rx = l.rx ∧ l'.requests = l.requests ∧ l'.mask = l.mask ∧ l'.interval = l.interval ∧
  l'.counter = l.counter ∧ l'.linkErrors = l.linkErrors ∧ l'.powerOn = l.powerOn ∧ l'.mode = l.mode

/-- A request has been answered: its reply has its place, and nothing of the Link's input side differs. -/
abbrev State.answers (s t : State) (kind tag : Byte) (result : Result) (fields : List Field) : Prop :=
  s.link.sameInput t.link ∧ t.link.carries (.reply kind tag result fields)

/-- Between two events with the line at rest: no report is being raised, and an idle line has nothing to send. -/
abbrev Settled (s : State) : Prop := s.link.raised = [] ∧ (s.link.sending = none → s.link.out = [])

/-- What a step of channel i leaves of a running pass (R62, R176, R177, R180): a held channel's entry to FAULTED sets
CHANNEL_FAULT, a clamped TAKE step OVERSPEED, and a flag newly set is reported; where the entry is EMERGENCY the pass
closes STOPPED with CHANNEL_FAULT set. -/
abbrev State.stepsPass (s t : State) (i : Fin 10) : Prop :=
  ∀ r, s.player.state = .playing → s.player.pass = some r →
    let failed := i ∈ s.heldSet ∧ s.chans[i].state ≠ .faulted ∧ t.chans[i].state = .faulted
    (t.stop.state = s.stop.state → ∃ clamped : Bool,
      t.player = { s.player with pass := some { r with flags := { r.flags with
        overspeed := clamped, channelFault := r.flags.channelFault || decide failed } } } ∧
      (r.flags.overspeed = true → clamped = true) ∧
      (s.router.routes[i].active ≠ .take → clamped = r.flags.overspeed) ∧
      (t.player.pass ≠ some r → t.reports (.pass none))) ∧
    (t.stop.state ≠ s.stop.state → t.player.state = .idle ∧ t.player.pass = none ∧
      ∃ closed, t.mem.passes.getLast? = some closed ∧ closed.slot = r.slot ∧ closed.result = some .stopped ∧
        closed.endFrame = s.tb.frameNumber ∧ closed.ticks = s.player.ticks ∧ closed.lag = s.player.lag ∧
        (failed → closed.flags.channelFault = true) ∧ t.reports (.pass (some closed)))

/-- What a step of channel i leaves, whatever its state (R18, R22, R25, R28, R38, R40, R53, R176): the demand sent is
the demand position's; an arm channel publishes its unit value; a FAULTED channel has velocity 0, and its entry there
from an arm channel is EMERGENCY with ARM_FAULT, which disarms every channel; and every other block and channel stands
but for what EMERGENCY orders and the flags of a running pass. -/
abbrev State.steps (s t : State) (i : Fin 10) (lines : DriveLines) : Prop :=
  let c := s.chans[i]
  let c' := t.chans[i]
  c'.cfg = c.cfg ∧ c'.readPending = false ∧ c'.ready = lines.ready ∧ c'.faultLine = lines.fault ∧
  c'.demand = c'.p / 256 ∧ c'.demandStep = c'.demand - c.demand ∧
  c'.unitValue = (if i.val < 4 then some ((c'.encoder - c.cfg.zeroOffset) * c.cfg.multiplier / 65536)
    else c.unitValue) ∧
  c'.unitFresh = (decide (i.val < 4) || c.unitFresh) ∧
  (c'.state = .faulted → c'.v = 0) ∧
  (c'.faults ≠ c.faults ∨ c'.warn ≠ c.warn → t.reports (.fault i)) ∧
  (∀ k : Fin 4, k.val = i.val → c.state ≠ .faulted → c'.state = .faulted →
    t.stop.armFaults[k] = true ∧ t.stop.causes.armFault = true ∧ t.stop.state = .emergency) ∧
  (4 ≤ i.val ∨ c.state = .faulted ∨ c'.state ≠ .faulted → t.stop = s.stop) ∧
  (t.stop.state ≠ s.stop.state → ∀ j : Fin 10, t.router.routes[j].armed = false) ∧ s.stepsPass t i ∧
  (t.stop.state = s.stop.state → t.player.state = s.player.state ∧ t.recorder = s.recorder ∧ t.mem = s.mem ∧
    t.lens = s.lens ∧ ∀ j : Fin 10, j ≠ i → t.chans[j] = s.chans[j] ∧ t.router.routes[j] = s.router.routes[j]) ∧
  (∀ j : Fin 10, j ≠ i →
    { t.chans[j] with state := s.chans[j].state, phase := s.chans[j].phase, brakeTimer := s.chans[j].brakeTimer
                      atTarget := s.chans[j].atTarget } = s.chans[j]) ∧
  t.settings = s.settings ∧ t.router.controls = s.router.controls ∧ t.tb = s.tb ∧ t.pose = s.pose ∧
  t.bus = s.bus ∧ t.crew = s.crew ∧ t.gov = s.gov ∧ t.mem.cells = s.mem.cells ∧ t.store = s.store ∧
  s.link.sameInput t.link

/-- A locator's answer (12.3): length, locator id, status, count, then eleven bytes for each tag seen, as tag id, x, y
and quality, and the CRC-16 over all of them. -/
def locatorFrame (id : Nat) (status : Byte) (seen : List (Nat × Int × Int × Nat)) : List Byte :=
  let covered := BitVec.ofNat 8 (3 + 11 * seen.length) :: BitVec.ofNat 8 id :: status ::
    BitVec.ofNat 8 seen.length ::
      seen.flatMap fun g => leBytes 2 g.1 ++ intBytes 4 g.2.1 ++ intBytes 4 g.2.2.1 ++ leBytes 1 g.2.2.2
  covered ++ leBytes 2 (crc16 covered).toNat

/-- The sightings that an answer's tags are kept as (R77). -/
def keptSightings (locator : Nat) (seen : List (Nat × Int × Int × Nat)) : List Sighting :=
  (seen.zipIdx.map fun g => (⟨g.1.1, g.1.2.1, g.1.2.2.1, g.1.2.2.2, locator, g.2⟩ : Sighting)).filter fun g =>
    g.tagId != 0 && g.tagId != 65535

/-- R92: every configured locator that is not optional has been online. -/
abbrev LocatorBus.haveBeenOnline (b : LocatorBus) : Prop :=
  ∀ j : Fin 8, b.locators[j].configured = true → b.locators[j].optional = false → b.locators[j].beenOnline = true

/-- What CREW_OVERFLOW does to the latch at a round's end (R87, R107, R108): it stands in the cause set exactly as the
round end publishes it; where it joins, the latch is set and its release not held. -/
abbrev State.overflowActs (s t : State) : Prop :=
  let before := s.gov.latch
  let after := t.gov.latch
  (t.crew.overflow ≠ s.crew.overflow → t.reports .crew) ∧ (after.crewOverflow = true ↔ t.crew.overflow = true) ∧
  (after.crewOverflow ≠ before.crewOverflow → t.reports .safety) ∧
  (t.crew.overflow = true → before.crewOverflow = false → after.isSet = true ∧ after.releaseHeld = false)

/-- What the end of a slot leaves (R53, R76 to R78, R87, R91, R92, R105, R107, R108, R122, R169): the entry with its
result, and the next slot or the round's end at the Crew Tracker, with which warm-up may end. A latch that stands
keeps its record. One newly set has as its first cause the LOCATOR_OFFLINE that the slot's end joins, or else the
CREW_OVERFLOW of the round's end; it drops the scale to 0 and takes LATCH to the Stop Supervisor, and a change of the
stop state disarms the arm and head channels and clears the cue frame flag of a CUEING Player. -/
abbrev State.slotEnds (s t : State) (r : Round) (good : Bool) (crcErrors : Nat) (degraded : Bool)
    (kept : List Sighting) : Prop :=
  let before := s.bus.locators[r.current]
  let after := t.bus.locators[r.current]
  let last := (before.history.toList.drop 5) ++ [good]
  after.config = before.config ∧ after.history.toList = before.history.toList.drop 1 ++ [good] ∧
  after.misses = (if good then 0 else min 255 (before.misses + 1)) ∧ after.crcErrors = crcErrors ∧
  after.degraded = degraded ∧ after.beenOnline = (before.beenOnline || after.link == .online) ∧
  after.link = (match before.link with
    | .absent => .absent
    | .online => if 2 ≤ last.count false then .missing else .online
    | .offline => if last.count false = 0 then .online else .offline
    | .searching | .missing =>
      if last.count false = 0 then .online else if 8 ≤ after.misses then .offline else before.link) ∧
  (∀ j : Fin 8, j ≠ r.current → t.bus.locators[j] = s.bus.locators[j]) ∧
  (after.link ≠ before.link ∨ after.degraded ≠ before.degraded → t.reports .crew) ∧
  (t.gov.latch.locatorOffline = true ↔ t.bus.anyOffline = true) ∧
  (t.bus.anyOffline = true → s.gov.latch.locatorOffline = false →
    t.gov.latch.isSet = true ∧ t.gov.latch.releaseHeld = false) ∧
  (s.gov.latch.isSet = true → t.gov.latch.isSet = true ∧ t.gov.latch.setFrame = s.gov.latch.setFrame ∧
    t.gov.latch.firstCause = s.gov.latch.firstCause ∧ t.gov.latch.firstItem = s.gov.latch.firstItem) ∧
  t.stop.causes = { s.stop.causes with latch := t.gov.latch.isSet } ∧ t.stop.state = t.stop.causes.stopState ∧
  (s.gov.latch.isSet = false → t.gov.latch.isSet = true →
    t.gov.latch.setFrame = some t.tb.frameNumber ∧ t.gov.latch.firstItem = none ∧ t.gov.scale = 0 ∧
    t.gov.latch.firstCause = some (if t.bus.anyOffline = true ∧ s.gov.latch.locatorOffline = false then .locatorOffline
      else .crewOverflow) ∧ t.reports .safety) ∧
  (t.gov.latch.locatorOffline ≠ s.gov.latch.locatorOffline → t.reports .safety) ∧
  (∀ k : Fin 10, t.router.routes[k] = { s.router.routes[k] with
    armed := s.router.routes[k].armed && (decide (7 ≤ k.val) || decide (t.stop.state = s.stop.state)) }) ∧
  t.player = { s.player with
    cueFlag := s.player.cueFlag && (decide (s.player.state ≠ .cueing) || decide (t.stop.state = s.stop.state)) } ∧
  (match r.toCome.filter fun j => t.bus.locators[j].configured with
    | next :: rest =>
      t.bus.round = some ⟨r.frame, next, t.bus.locators[next].address, false, false, rest, r.sightings ++ kept⟩ ∧
      t.crew = s.crew ∧ t.gov.latch.crewOverflow = s.gov.latch.crewOverflow
    | [] => t.bus.round = none ∧
      t.crew = { s.crew.roundEnd s.gov r.frame (r.sightings ++ kept) with warmUp := t.crew.warmUp } ∧
      (t.crew.warmUp = true ↔ s.crew.warmUp = true ∧ ¬(s.link.mode ≠ .starting ∧ t.bus.haveBeenOnline)) ∧
      (s.crew.warmUp = true → t.crew.warmUp = false → t.reports .crew) ∧ s.overflowActs t) ∧
  t.settings = s.settings ∧ t.tb = s.tb ∧ t.pose = s.pose ∧ t.chans = s.chans ∧ t.lens = s.lens ∧ t.mem = s.mem ∧
  t.recorder = s.recorder ∧ t.store = s.store ∧ s.link.sameInput t.link

/-- What EMERGENCY does to the Recorder (R151, R154, R180): a recording ends ESTOP_END, kept READY at two frames or
more and discarded below, and an ARMED Recorder gives its slot and block back. -/
abbrev State.recordingStops (s t : State) : Prop :=
  t.recorder.state = .idle ∧ t.recorder.slot = none ∧ t.mem.cells = s.mem.cells ∧
  ∀ i : Fin 32, s.recorder.slot = some i →
    let sl := s.mem.slots[i]
    let keeps := s.recorder.state = .recording ∧ 2 ≤ sl.frames
    (if keeps then
      t.mem.slots[i] = { sl with state := .ready, play := true, erase := true
                                 flags := { sl.flags with estopEnd := true } } ∧ t.mem.free = s.mem.free
    else t.mem.slots[i] = Slot.empty ∧ t.mem.free = s.mem.free ++ sl.chain) ∧
    (s.recorder.state = .recording → t.reports (.take .recordEnded (some i) (some .emergency) (decide keeps) none))

/-- What EMERGENCY does to the Player (R46, R161, R177, R180): it is IDLE and its channels are on their configured
sources, unarmed; a running pass closes STOPPED, into the pass history and as its slot's last pass. -/
abbrev State.passStops (s t : State) : Prop :=
  t.player.state = .idle ∧ t.player.slot = none ∧
  (s.player.state ≠ .idle → ∀ c ∈ s.heldSet,
    t.router.routes[c] = ⟨s.router.routes[c].configured, .own s.router.routes[c].configured, false⟩) ∧
  (s.player.state ≠ .idle → s.recorder.state = .idle →
    t.reports (.take .playerReleased s.player.slot none false none)) ∧
  ∀ r, s.player.state = .playing → s.player.pass = some r →
    let q := s.mem.slots[r.slot].tpf * 1024
    let closed : PassRecord :=
      { r with endFrame := t.tb.frameNumber, ticks := s.player.ticks, lag := s.player.lag
               lagFrames := (200 * s.player.lag + q) / (2 * q), result := some .stopped }
    t.player.pass = none ∧ t.mem.slots[r.slot].lastPass = some closed ∧
    t.mem.passes = (if s.mem.passes.length < 16 then s.mem.passes else s.mem.passes.drop 1) ++ [closed] ∧
    t.mem.passCount = (s.mem.passCount + 1) % 65536 ∧ t.reports (.pass (some closed))

/-- What EMERGENCY orders (7.2, R35, R138, R151, R154, R180): where the Player lets go of FOCUS with FOLLOW
configured, the follow record starts, and stands as it started. -/
abbrev State.broughtDown (s t : State) : Prop :=
  t.stop.state = .emergency ∧ s.passStops t ∧ s.recordingStops t ∧
  (∀ i : Fin 10, t.chans[i].state = match s.chans[i].state with
    | .releasing | .active | .parking | .stopping => .stopping
    | .parked | .disabled => .disabled
    | .faulted => .faulted) ∧
  (s.player.state ≠ .idle → focus ∈ s.heldSet → s.router.routes[focus].configured = .follow →
    t.lens.follow = ⟨.holding, s.chans[focus].demand, none, false, false⟩)

/-- The emergency-stop loop reads closed at a tick and before it, and EMERGENCY does not stand. -/
abbrev State.loopStaysClosed (s : State) (inp : TickInputs) : Prop :=
  CauseLaw s ∧ s.stop.state ≠ .emergency ∧ s.stop.a.isOpen = false ∧ s.stop.b.isOpen = false ∧
  inp.estopAOpen = false ∧ inp.estopBOpen = false

/-- The Player lets go (R46): it is IDLE, its channels are on their configured sources, unarmed, and keep their
motion; the other channels' routes stand. -/
abbrev State.letsGo (s t : State) : Prop :=
  t.player.state = .idle ∧ t.player.slot = none ∧ t.player.pass = none ∧ t.player.rollPending = false ∧
  (∀ c : Fin 10, t.router.routes[c] =
    if c ∈ s.heldSet then ⟨s.router.routes[c].configured, .own s.router.routes[c].configured, false⟩
    else s.router.routes[c]) ∧
  ∀ c : Fin 10, { t.chans[c] with atTarget := s.chans[c].atTarget } = s.chans[c]

/-- Every law at once. -/
abbrev Lawful (s : State) : Prop :=
  ClockLaw s ∧ BlockLaw s ∧ CellsLaw s ∧ EngineLaw s ∧ DriveLaw s ∧ RouteLaw s ∧ FollowLaw s ∧ CrewLaw s ∧
  StopLaw s ∧ QueueLaw s

/-! ### The requests as commands (12.1, R199) -/

/-- The kinds that name a request (12.1). -/
def requestKinds : List Byte :=
  [0x01#8, 0x02#8, 0x08#8, 0x09#8, 0x0A#8, 0x0B#8, 0x0C#8, 0x10#8, 0x11#8, 0x12#8, 0x18#8, 0x19#8, 0x20#8, 0x21#8,
    0x22#8, 0x23#8, 0x24#8, 0x28#8, 0x29#8, 0x2A#8, 0x30#8, 0x31#8, 0x32#8, 0x38#8, 0x39#8, 0x40#8, 0x41#8, 0x42#8,
    0x43#8, 0x44#8, 0x45#8, 0x46#8, 0x47#8, 0x48#8, 0x49#8, 0x50#8, 0x51#8, 0x52#8, 0x53#8, 0x58#8, 0x59#8, 0x5A#8,
    0x5B#8, 0x5C#8, 0x5D#8, 0x5E#8]

/-- The command that a request of a kind with two forms spells (R199). -/
def formCommand (form0 form1 : List Byte → Instr) : List Byte → Option Instr
  | 0x00#8 :: b => some (form0 b)
  | 0x01#8 :: b => some (form1 b)
  | _ => none

/-- LOAD LENS TABLE's two forms (R199). -/
def lensCommand (tag : Byte) (b : List Byte) : Instr :=
  match whole readLensTable b with
  | some ⟨channel, []⟩ => .loadLensTableReadForm tag (some channel)
  | args => .loadLensTable tag args

/-- The command that a waiting request spells; none for a kind that names no request and for a form byte other
than 0 and 1. -/
def Request.command (r : Request) : Option Instr :=
  let t := r.tag
  let b := r.payload
  match r.kind.toNat with
  | 0x01 => some (.setTimebase t (whole readTimebase b))
  | 0x02 => some (.getTimebase t (whole noFields b))
  | 0x08 => some (.configureChannel t (whole (readIndexed readChannelArgs) b))
  | 0x09 => some (.getChannel t (whole (getNat 1) b))
  | 0x0A => some (.enableChannels t (whole (getNat 1) b))
  | 0x0B => some (.disableChannels t (whole (getNat 2) b))
  | 0x0C => some (.clearFaults t (whole (getNat 2) b))
  | 0x10 => formCommand (fun b => .setRoute t (whole (readIndexed readRouteArg) b))
      (fun b => .setRouteRouterForm t (whole readRouter b)) b
  | 0x11 => some (.getRoutes t (whole noFields b))
  | 0x12 => some (.controlSample t (readPairs b))
  | 0x18 => some (.setGeometry t (whole readGeometry b))
  | 0x19 => some (.getPose t (whole noFields b))
  | 0x20 => some (.setLocator t (whole readLocator b))
  | 0x21 => formCommand (fun b => .setTag t (whole readTag b))
      (fun b => .setTagTrackerForm t (whole readTracker b)) b
  | 0x22 => some (.removeTag t (whole (getNat 2) b))
  | 0x23 => some (.getCrew t (whole readPart b))
  | 0x24 => some (.clearCrew t (whole (getNat 2) b))
  | 0x28 => some (.setZone t (whole (readIndexed readZone) b))
  | 0x29 => formCommand (fun b => .setGovernor t (whole readGovernor b))
      (fun b => .setGovernorStopForm t (whole (getNat 2) b)) b
  | 0x2A => some (.resume t (whole noFields b))
  | 0x30 => some (.resetStop t (whole noFields b))
  | 0x31 => some (.startSafetyTest t (whole readSafetyTest b))
  | 0x32 => some (.getSafety t (whole readPart b))
  | 0x38 => some (lensCommand t b)
  | 0x39 => some (.setFocusTarget t (whole readFocus b))
  | 0x40 => some (.record t (whole readRecord b))
  | 0x41 => some (.stopRecord t (whole noFields b))
  | 0x42 => some (.createTake t (whole readCreateTake b))
  | 0x43 => some (.writeTakeData t (whole readWriteTake b))
  | 0x44 => some (.closeTake t (whole (getNat 1) b))
  | 0x45 => some (.readTakeData t (whole readReadTake b))
  | 0x46 => some (.eraseTake t (whole (getNat 1) b))
  | 0x47 => some (.setTakeAccess t (whole readAccess b))
  | 0x48 => some (.getDirectory t (whole readDirectoryPart b))
  | 0x49 => some (.getPasses t (whole (getNat 2) b))
  | 0x50 => some (.cue t (whole readCue b))
  | 0x51 => some (.roll t (whole noFields b))
  | 0x52 => some (.abortPlay t (whole noFields b))
  | 0x53 => some (.release t (whole noFields b))
  | 0x58 => some (.getStatus t (whole noFields b))
  | 0x59 => some (.setReports t (whole readReports b))
  | 0x5A => some (.setMode t (whole (getNat 1) b))
  | 0x5B => some (.saveSettings t (whole noFields b))
  | 0x5C => some (.lockSettings t (whole noFields b))
  | 0x5D => some (.restart t (whole noFields b))
  | 0x5E => some (.identify t (whole noFields b))
  | _ => none

/-! ### Settings as the requests carry them -/

/-- A configuration as CONFIGURE CHANNEL carries it (R19). -/
def ChannelConfig.args (c : ChannelConfig) : ChannelArgs :=
  ⟨if c.present then 1 else 0, c.zeroOffset, c.multiplier, c.softMin, c.softMax, c.vmax, c.accel, c.stopDecel,
    c.followingLimit, c.parkDelay, c.releaseTime, c.engageTime, c.pickupWindow⟩

/-- Tracker parameters as SET TAG's tracker form carries them (R81). -/
def TrackerParams.args (p : TrackerParams) : TrackerArgs :=
  ⟨p.minQuality, p.staleAfter, p.lostAfter, p.growth, p.lostCap, p.defaultRadius⟩

/-- A zone as SET ZONE carries it (R95). -/
def Zone.args (z : Zone) : ZoneArgs :=
  ⟨match z.kind with | .keepOut => 0 | .exit => 1, z.xmin, z.xmax, z.ymin, z.ymax, z.ceiling, z.clearance,
    match z.activation with | .always => 0 | .guard _ => 1 | .off => 2,
    match z.activation with | .guard g => g.val | .always | .off => 0⟩

/-- Governor parameters as SET GOVERNOR carries them (R97). -/
def GovernorParams.args (p : GovernorParams) : GovernorArgs :=
  ⟨p.clearance, p.slowBand, p.decel, p.creep, p.scaleRise, if p.autoResume then 1 else 0⟩

/-- A source as SET ROUTE carries it (R44, R199); a physical PRESET by its physical value. -/
def RouteSource.arg : RouteSource → RouteArg
  | .rate k => .rate k.val
  | .position k => .position k.val
  | .preset counts none => .preset 0 counts
  | .preset _ (some value) => .preset 1 value
  | .hold => .hold
  | .follow => .follow

end Sys2Proof.Machine
end

