-- ==== Sys2Proof/WellFormed.lean ====
section
/-! DEFINITION. Well-formed commands: every number of a command fits the width it has on the wire (R198). -/

namespace Sys2Proof

/-- An unsigned number of `w` bytes. -/
def fitsNat (w n : Nat) : Bool := n < 256 ^ w

/-- A signed number of `w` bytes. -/
def fitsInt (w : Nat) (v : Int) : Bool := -(256 ^ w : Nat) ≤ 2 * v && 2 * v < (256 ^ w : Nat)

def fits8 (n : Nat) : Bool := fitsNat 1 n
def fits16 (n : Nat) : Bool := fitsNat 2 n
def fits32 (n : Nat) : Bool := fitsNat 4 n
def fitsI16 (v : Int) : Bool := fitsInt 2 v
def fitsI32 (v : Int) : Bool := fitsInt 4 v

/-- An operand that a payload may lack is well-formed when what it holds is. -/
def optWf {α : Type} (wf : α → Bool) (a : Option α) : Bool := a.all wf

def TimebaseArgs.wf (a : TimebaseArgs) : Bool :=
  fits8 a.source && fits8 a.rateCode && fits8 a.tpf && fits16 a.holdoverLimit

def ChannelArgs.wf (a : ChannelArgs) : Bool :=
  fits8 a.present && fitsI32 a.zeroOffset && fitsI32 a.multiplier && fitsI32 a.softMin && fitsI32 a.softMax &&
  fitsI32 a.vmax && fitsI32 a.accel && fitsI32 a.stopDecel && fitsI32 a.followingLimit && fits16 a.parkDelay &&
  fits16 a.releaseTime && fits16 a.engageTime && fitsI32 a.pickupWindow

def RouteArg.wf : RouteArg → Bool
  | .rate k | .position k => fits8 k
  | .preset physical value => fits8 physical && fitsI32 value
  | .hold | .follow => true
  | .other kind => fits8 kind && 5 ≤ kind

def GeometryArgs.wf (a : GeometryArgs) : Bool :=
  fitsI32 a.x0 && fitsI32 a.y0 && fitsI32 a.h && fitsI32 a.l0 && fitsI32 a.crewCeiling

def LocatorArgs.wf (a : LocatorArgs) : Bool :=
  fits8 a.index && fits8 a.configured && fits8 a.address && fits8 a.optional && fits16 a.window

def TagArgs.wf (a : TagArgs) : Bool := fits16 a.tagId && fits8 a.role && fitsI32 a.baseRadius

def TrackerArgs.wf (a : TrackerArgs) : Bool :=
  fits8 a.minQuality && fits16 a.staleAfter && fits16 a.lostAfter && fitsI32 a.growth && fitsI32 a.lostCap &&
  fitsI32 a.defaultRadius

def PartArgs.wf (a : PartArgs) : Bool := fits8 a.part && fits16 a.start && fits16 a.chain

def ZoneArgs.wf (a : ZoneArgs) : Bool :=
  fits8 a.kind && fitsI32 a.xmin && fitsI32 a.xmax && fitsI32 a.ymin && fitsI32 a.ymax && fitsI32 a.ceiling &&
  fitsI32 a.clearance && fits8 a.activation && fits8 a.guard

def GovernorArgs.wf (a : GovernorArgs) : Bool :=
  fitsI32 a.clearance && fitsI32 a.slowBand && fitsI32 a.decel && fits16 a.creep && fits16 a.scaleRise &&
  fits8 a.autoResume

def SafetyTestArgs.wf (a : SafetyTestArgs) : Bool := fitsI32 a.x && fitsI32 a.y && fits16 a.duration

def LensPoint.wf (a : LensPoint) : Bool := fitsI32 a.counts && fitsI32 a.value

/-- LOAD LENS TABLE's load form has at least one point: no points is the read form (R199). -/
def LensTableArgs.wf (a : LensTableArgs) : Bool :=
  fits8 a.channel && fits8 a.points.length && !a.points.isEmpty && a.points.all LensPoint.wf

def FocusArg.wf : FocusArg → Bool
  | .noTarget offset => fitsI32 offset
  | .point x y z offset => fitsI32 x && fitsI32 y && fitsI32 z && fitsI32 offset
  | .tag tagId eyeHeight offset => fits16 tagId && fitsI32 eyeHeight && fitsI32 offset
  | .other kind => fits8 kind && 3 ≤ kind

def RecordArgs.wf (a : RecordArgs) : Bool :=
  fits8 a.slot && fits8 a.name.length && fits16 a.set && fits8 a.startKind

def CreateTakeArgs.wf (a : CreateTakeArgs) : Bool :=
  fits8 a.slot && fits8 a.name.length && fits16 a.set && fits8 a.rateCode && fits8 a.tpf && fits16 a.frameCount

def WriteTakeArgs.wf (a : WriteTakeArgs) : Bool := fits8 a.slot && fits32 a.offset && fits8 a.count

def ReadTakeArgs.wf (a : ReadTakeArgs) : Bool := fits8 a.slot && fits32 a.offset && fits8 a.count

def AccessArgs.wf (a : AccessArgs) : Bool := fits8 a.slot && fits8 a.access

def ReplayArgs.wf (a : ReplayArgs) : Bool := fits16 a.cueTimeout && fits16 a.paceFall && fits16 a.paceRise

def CueArgs.wf (a : CueArgs) : Bool := fits8 a.slot && optWf ReplayArgs.wf a.replay

def ReportsArgs.wf (a : ReportsArgs) : Bool := fits8 a.mask && fits16 a.interval

/-- The control samples of one request: indexes of a byte, signed 16-bit values (R48). -/
def samplesWf (pairs : List (Nat × Int)) : Bool := pairs.all fun p => fits8 p.1 && fitsI16 p.2

/-- A well-formed command. -/
def Instr.wf : Instr → Bool
  | .powerOnReset | .tick _ | .frameBoundary _ | .referencePulse _ | .pulseWindowClose | .noPulseAfterEntry _
  | .holdoverLimitReached _ | .encoderAnswer _ _ _ | .encoderReadWindowClose _ _ | .brakeTimerExpiry _ _ _
  | .parkDelayReached _ _ _ | .controlInputStale _ _ | .pollSent | .locatorAnswer _ | .locatorAnswerWindowClose
  | .discrepancyTimeExceeded _ | .safetyTestEnd _ | .recordFrameLimit _ | .cueTimeout _ | .frameReportDue _
  | .frameReceived _ | .frameTimeout _ | .requestAcceptance | .messageSent | .settingsLoadEnd _
  | .loadAckTimeout | .saveEnd _ | .saveTimeout => true
  | .frameLengthDiscard length => 248 < length.toNat
  | .setTimebase _ a => optWf TimebaseArgs.wf a
  | .configureChannel _ a => optWf (fun a => fits8 a.1 && a.2.wf) a
  | .setRoute _ a => optWf (fun a => fits8 a.1 && a.2.wf) a
  | .setRouteRouterForm _ a => optWf (fun a => fits16 a.1 && fits16 a.2) a
  | .controlSample _ a => optWf samplesWf a
  | .setGeometry _ a => optWf GeometryArgs.wf a
  | .setLocator _ a => optWf LocatorArgs.wf a
  | .setTag _ a => optWf TagArgs.wf a
  | .setTagTrackerForm _ a => optWf TrackerArgs.wf a
  | .getCrew _ a | .getSafety _ a | .getDirectory _ a => optWf PartArgs.wf a
  | .setZone _ a => optWf (fun a => fits8 a.1 && a.2.wf) a
  | .setGovernor _ a => optWf GovernorArgs.wf a
  | .startSafetyTest _ a => optWf SafetyTestArgs.wf a
  | .loadLensTable _ a => optWf LensTableArgs.wf a
  | .setFocusTarget _ a => optWf FocusArg.wf a
  | .record _ a => optWf RecordArgs.wf a
  | .createTake _ a => optWf CreateTakeArgs.wf a
  | .writeTakeData _ a => optWf WriteTakeArgs.wf a
  | .readTakeData _ a => optWf ReadTakeArgs.wf a
  | .setTakeAccess _ a => optWf AccessArgs.wf a
  | .cue _ a => optWf CueArgs.wf a
  | .setReports _ a => optWf ReportsArgs.wf a
  | .disableChannels _ a | .clearFaults _ a | .removeTag _ a | .clearCrew _ a | .setGovernorStopForm _ a
  | .getPasses _ a => optWf fits16 a
  | .getChannel _ a | .enableChannels _ a | .loadLensTableReadForm _ a | .closeTake _ a | .eraseTake _ a
  | .setMode _ a => optWf fits8 a
  | .getTimebase _ _ | .getRoutes _ _ | .getPose _ _ | .resume _ _ | .resetStop _ _ | .stopRecord _ _
  | .roll _ _ | .abortPlay _ _ | .release _ _ | .getStatus _ _ | .saveSettings _ _ | .lockSettings _ _
  | .restart _ _ | .identify _ _ => true

end Sys2Proof
end

