-- ==== Sys2Proof/Certificates/Slice0/Obligations.lean ====
section
/-! DEFINITION. The statements for the provers. Where a statement speaks of a reply or a report it does so through
`Link.answered`, `State.answers` and `State.reports`; `Serving` says that the Link hands a request on. -/

open Sys2Proof Sys2Proof.Machine

/-! ### The step and the resets -/

/-- The step takes the command at the front of the queue and runs it on the rest. The queue is the model's form of the
order in which events arrive (log entry 1). -/
def Obligations.StepRunsFrontCommand : Prop :=
  ∀ (c : Instr) (rest : List Instr) (s : State),
    step { s with pending := c :: rest } = exec c { s with pending := rest }

/-- Every command answers a next state in every state, and leaves the waiting commands as they are. -/
def Obligations.EveryCommandCompletes : Prop :=
  ∀ (c : Instr) (s : State), ∃ t, exec c s = .next t ∧ t.pending = s.pending

/-- The state after power-on reset satisfies every law and holds valid settings, with FOCUS not on FOLLOW and no
address shared. The memory's canonical form (log entry 8), an idle line with nothing pending (log entry 9) and the
values that the spec leaves unnamed (log entry 10) are the model's. -/
def Obligations.ResetIsLawful : Prop :=
  Lawful State.reset ∧ State.reset.settings.Valid ∧ FollowTableLaw State.reset ∧ AddressLaw State.reset

/-- 1.8, 2.7, 3.5, 4.7, 5.6, 6.7, 7.9, 8.6, 9.8, 10.9, 11.9: the values after power-on reset, whatever stood before.
The values that those sections leave unnamed are the model's (log entry 10), and so is the form in which the EEPROM
keeps its bytes (log entry 22). -/
def Obligations.PowerOnResetValues : Prop :=
  ∀ s : State, ∃ t, exec .powerOnReset s = .next t ∧ t.pending = s.pending ∧
    (t.tb.source = .internal ∧ t.tb.lock = .freeRun ∧ t.tb.rateCode = 2 ∧ t.tb.tpf = 20 ∧ t.tb.holdoverLimit = 50 ∧
      t.tb.history.toList = [false, false, false, false] ∧ t.tb.measured = nominalPeriod 2 ∧
      t.tb.holdoverCount = 0 ∧ t.tb.phaseEstablished = false ∧ t.tb.lockLost = false ∧ t.tb.slipCount = 0) ∧
    (∀ i : Fin 10, t.chans[i].state = .disabled ∧ t.chans[i].cfg = ChannelConfig.default ∧ t.chans[i].p = 0 ∧
      t.chans[i].v = 0 ∧ t.chans[i].demand = 0 ∧ t.chans[i].encoder = 0 ∧ t.chans[i].faults = FaultSet.empty ∧
      t.router.routes[i] = ⟨.hold, .own .hold, false⟩) ∧
    (∀ k : Fin 12, t.router.controls[k] = ⟨0, 65535, true⟩) ∧ t.router.controlTimeout = 200 ∧
    t.router.deadband = 400 ∧ t.pose.geometry = ⟨0, 0, 1800, 3000, 2200⟩ ∧ t.pose.geometrySet = false ∧
    t.pose.head = ⟨0, 0, 0⟩ ∧ t.pose.speed = 0 ∧ t.pose.incomplete = true ∧
    (∀ i : Fin 8, t.bus.locators[i].link = .absent ∧ t.bus.locators[i].config = ⟨false, i.val + 1, false, 600⟩) ∧
    t.crew.table = [] ∧ t.crew.directory = [] ∧ t.crew.params = ⟨4, 3, 50, 80, 3000, 500⟩ ∧
    t.crew.membership = 0 ∧ t.crew.overflow = false ∧ t.crew.warmUp = true ∧
    (∀ i : Fin 16, t.gov.zones[i] = ⟨.keepOut, 0, 0, 0, 0, 0, 0, .off⟩) ∧
    t.gov.params = ⟨1500, 3000, 1000, 64, 8, false⟩ ∧ t.gov.scale = 0 ∧ t.gov.latch = Latch.initial ∧
    (∀ g : Fin 8, t.gov.guardState[g] = true) ∧
    t.stop.state = .hold ∧ t.stop.prev = .hold ∧ t.stop.causes = ⟨false, false, false, false, false, true⟩ ∧
    t.stop.discTime = 100 ∧ t.stop.bothOpen = false ∧ t.stop.test.state = .none ∧
    (∀ j : Fin 3, t.lens.tables[j] = [] ∧ t.lens.values[j] = none) ∧ t.lens.target = ⟨.none, 0, 0, 0, 0, 1600, 0⟩ ∧
    t.lens.follow = ⟨.inactive, 0, none, false, false⟩ ∧
    t.mem.free = List.range 1024 ∧ (∀ i : Fin 32, t.mem.slots[i] = Slot.empty) ∧ t.mem.passes = [] ∧
    t.mem.passCount = 0 ∧ t.recorder.state = .idle ∧ t.recorder.slot = none ∧ t.player = Player.initial ∧
    t.link.rx = [] ∧ t.link.requests = [] ∧ t.link.out = [] ∧ t.link.sending = none ∧
    (∀ k : Fin 8, t.link.mask[k] = true) ∧ t.link.interval = 0 ∧ t.link.counter = 0 ∧ t.link.linkErrors = 0 ∧
    t.link.powerOn = true ∧ t.link.mode = .starting ∧ t.store = ⟨false, false, none, s.store.eeprom⟩

/-- 9.8, 10.9, 11.8: an accepted RESTART. The stored bytes, those of the EEPROM, the settings lock, the power-on flag,
the message in transmission and the waiting commands stand; a running recording, pass and save end; every other block
holds its reset values, of which the unnamed ones are the model's (log entry 10); and the reply is the first message
after the one in transmission, which an idle line begins at once (log entry 9). What a RESTART leaves of the takes and
the reports it raises are in part the readings of log entry 23, and the form of the EEPROM's bytes is log entry 22. -/
def Obligations.RestartKeepsWhatItMust : Prop :=
  ∀ (s : State) (tag : Byte), Serving s →
    ∃ t, exec (.restart tag (some ())) s = .next t ∧
      t = { State.reset with mem := t.mem, link := t.link, store := ⟨false, s.store.locked, none, s.store.eeprom⟩
                             pending := s.pending } ∧
      t.mem.cells = s.mem.cells ∧
      (s.player.state ≠ .playing → s.recorder.state = .idle → t.mem = s.mem) ∧
      (∀ i : Fin 32, s.recorder.state = .armed → s.recorder.slot = some i → s.player.state ≠ .playing →
        t.mem.slots[i] = Slot.empty ∧ t.mem.free = s.mem.free ++ s.mem.slots[i].chain) ∧
      (∀ i : Fin 32, s.recorder.state = .recording → s.recorder.slot = some i → s.player.state ≠ .playing →
        if 2 ≤ s.mem.slots[i].frames then
          t.mem.slots[i] =
            { s.mem.slots[i] with state := .ready, play := true, erase := true
                                  flags := { s.mem.slots[i].flags with truncated := true } } ∧
          t.mem.free = s.mem.free ∧ t.reports (.take .recordEnded (some i) (some .restart) true none)
        else t.mem.slots[i] = Slot.empty ∧ t.mem.free = s.mem.free ++ s.mem.slots[i].chain ∧
          t.reports (.take .recordEnded (some i) (some .restart) false none)) ∧
      (∀ r, s.player.state = .playing → s.player.pass = some r →
        ∃ closed, closed.result = some .aborted ∧ closed.slot = r.slot ∧ t.mem.passes.getLast? = some closed ∧
          t.reports (.pass (some closed))) ∧
      (∀ v, s.store.save = some v → t.reports (.save false v.frame)) ∧
      t.link.rx = [] ∧ t.link.requests = [] ∧ t.link.linkErrors = 0 ∧ t.link.powerOn = s.link.powerOn ∧
      t.link.mode = .starting ∧ (∀ k : Fin 8, t.link.mask[k] = true) ∧ t.link.interval = 0 ∧
      (match s.link.sending with
        | some m => t.link.sending = some m ∧ t.link.out.head? = some (.reply 0x5D#8 tag .ok [])
        | none => t.link.sending = some (.reply 0x5D#8 tag .ok []))

/-! ### What every step keeps -/

/-- 6.4, 10.4 (R105, R173): every step keeps the published governor scale in 0..1024, at 0 while the latch is set and
at most creep under a cap; and the take clock and the lag at 1024 together for each tick since the roll. -/
def Obligations.StepKeepsClockLaw : Prop :=
  ∀ s t : State, ClockLaw s → step s = .next t → ClockLaw t

/-- 9.2 (R148): every step keeps each block in the free list once or in one chain once, and the bytes of take memory
in their canonical form, which is the model's (log entry 8). -/
def Obligations.StepKeepsMemoryLaws : Prop :=
  ∀ s t : State, EngineLaw s → BlockLaw s → CellsLaw s → step s = .next t → BlockLaw t ∧ CellsLaw t

/-- 9.2, 9.3, 9.5, 10.1 (R149 to R151, R160, R165): every step keeps the directory, the Recorder and the Player in
agreement. -/
def Obligations.StepKeepsEngineLaw : Prop :=
  ∀ s t : State, EngineLaw s → step s = .next t → EngineLaw t

/-- 2.4, 3.4 (R25, R58 to R60): every step keeps an enabled drive's demand within its soft limits and every velocity
within vmax. -/
def Obligations.StepKeepsDriveLaw : Prop :=
  ∀ s t : State, DriveLaw s → step s = .next t → DriveLaw t

/-- 3.1, 3.3 (R42, R45, R46, R53): every step keeps the Player's hold on channels and the armed flags right. -/
def Obligations.StepKeepsRouteLaw : Prop :=
  ∀ s t : State, EngineLaw s → RouteLaw s → step s = .next t → RouteLaw t

/-- 3.1, 8.4 (R43, R44, R138): every step keeps FOLLOW to FOCUS, and the follow state INACTIVE exactly while FOCUS
does not follow; and every step but the end of a settings load, whose image may hold FOLLOW without a FOCUS table (log
entry 21), keeps the table loaded while FOLLOW stands for FOCUS. -/
def Obligations.StepKeepsFollowLaw : Prop :=
  ∀ s t : State, FollowLaw s → step s = .next t →
    FollowLaw t ∧ (FollowTableLaw s → ¬s.loadsNext → FollowTableLaw t)

/-- 5.3, 5.4 (R79, R82, R88): every step keeps the tag directory and the crew table in order. -/
def Obligations.StepKeepsCrewLaw : Prop :=
  ∀ s t : State, CrewLaw s → step s = .next t → CrewLaw t

/-- 2.5, 7.1, 7.4, 7.5 (R114, R120, R122, R35): every step keeps the stop state the one the cause set gives, and
EMERGENCY without a live channel, a Player or a Recorder. -/
def Obligations.StepKeepsStopLaw : Prop :=
  ∀ s t : State, EngineLaw s → StopLaw s → step s = .next t → StopLaw t

/-- 11.2, 11.3 (R185, R187): every step keeps the queues within their places. That an idle line has nothing pending is
the model's choice (log entry 9). -/
def Obligations.StepKeepsQueueLaw : Prop :=
  ∀ s t : State, QueueLaw s → step s = .next t → QueueLaw t

/-- 5.1, 11.6 (R75, R192): with well-formed commands waiting, every step keeps every setting in its range; and every
step but the end of a settings load, whose image may hold one address twice (log entry 21), keeps the addresses of
configured locators distinct. -/
def Obligations.StepKeepsValidSettings : Prop :=
  ∀ s t : State, s.settings.Valid → (∀ c ∈ s.pending, c.wf = true) → step s = .next t →
    t.settings.Valid ∧ (∀ c ∈ t.pending, c.wf = true) ∧ (AddressLaw s → ¬s.loadsNext → AddressLaw t)

/-! ### Encodings and the console link -/

/-- 11.6, 12.3 (R192, R193): the settings image of valid settings reads back as those settings. Which sources and
focus targets lie in the range of their fields is in part the model's reading (log entry 21), and a zone's guard byte
is log entry 28. -/
def Obligations.ImageReadsBack : Prop :=
  ∀ t : Settings, t.Valid → t.mode ≠ .starting → parseImage t.image = some t

/-- 11.1, 11.2, 12.1: a frame of 12.1 that arrives at a hunting receiver is valid: it joins the request queue at the
newest end; with 8 waiting it is answered BUSY; and without a reply place it is dropped and counted. An idle line
takes a message at once (log entry 9). -/
def Obligations.ConsoleFrameIsReceived : Prop :=
  ∀ (s : State) (kind tag : Byte) (payload : List Byte), s.link.raised = [] → s.link.rx = [] →
    payload.length ≤ 248 →
    let joined := { s.link with requests := s.link.requests ++ [(⟨kind, tag, payload⟩ : Request)] }
    let dropped := { s.link with linkErrors := min 1023 (s.link.linkErrors + 1) }
    let link :=
      if s.link.requests.length < 8 then joined.startSending
      else if s.link.replyPlaceFree then s.link.answered kind tag .busy []
      else dropped.startSending
    exec (.frameReceived (consoleFrame kind tag payload)) s = .next { s with link := link }

/-- 11.1 (R184): the discards. A length byte above 248 after a SYNC, a frame whose CRC does not match, and a frame
whose time has run out, each add 1 to the link error count, saturating at 1023, and what stands after the SYNC is
examined afresh: where no SYNC stands in it the receiver hunts on, and a SYNC inside a damaged frame begins the next
one. The form in which bytes arrive is the model's (log entry 14). -/
def Obligations.DiscardedFramesAreCounted : Prop :=
  ∀ s : State, Settled s →
    let counted (rx : List Byte) (requests : List Request) :=
      { s with link := { s.link with rx := rx, requests := requests
                                     linkErrors := min 1023 (s.link.linkErrors + 1) } }
    (∀ length : Byte, s.link.rx = [] → 248 < length.toNat →
      exec (.frameLengthDiscard length) s = .next (counted [] s.link.requests)) ∧
    (∀ (kind tag c0 c1 : Byte) (payload : List Byte), s.link.rx = [] → payload.length ≤ 248 →
      let body := BitVec.ofNat 8 payload.length :: kind :: tag :: payload
      let frame := body ++ [c0, c1]
      [c0, c1] ≠ leBytes 2 (crc16 body).toNat →
      (sync ∉ frame → exec (.frameReceived (sync :: frame)) s = .next (counted [] s.link.requests)) ∧
      ∀ (before : List Byte) (kind' tag' : Byte) (payload' : List Byte), sync ∉ before → payload'.length ≤ 248 →
        frame = before ++ consoleFrame kind' tag' payload' → s.link.requests.length < 8 →
        exec (.frameReceived (sync :: frame)) s =
          .next (counted [] (s.link.requests ++ [(⟨kind', tag', payload'⟩ : Request)]))) ∧
    (∀ rest : List Byte, s.link.rx = sync :: rest → checkFrame rest = .partial_ →
      (sync ∉ rest → exec (.frameTimeout []) s = .next (counted [] s.link.requests)) ∧
      ∀ before next : List Byte, rest = before ++ sync :: next → sync ∉ before → checkFrame next = .partial_ →
        exec (.frameTimeout []) s = .next (counted (sync :: next) s.link.requests))

/-- 11.2, 12.1 (R185, R186, R199): REQUEST_ACCEPTANCE takes the oldest waiting request and does what the command it
spells does. The codes and forms of the fields that 12.2 leaves open are log entries 12 and 15. -/
def Obligations.AcceptanceRunsTheCommand : Prop :=
  ∀ (s : State) (r : Request) (rest : List Request) (c : Instr),
    s.link.requests = r :: rest → s.link.replyPlaceFree = true → r.command = some c →
    exec .requestAcceptance s = exec c { s with link := { s.link with requests := rest } }

/-- 11.2, 12.1 (R185, R186): while no reply place is free a request waits. A kind that names no request is answered
UNKNOWN_KIND in every mode, and in STARTING every request but GET STATUS and IDENTIFY is answered BUSY. A refused
request changes no state: serving it leaves everything as it was but for the reply. An idle line takes a message at
once (log entry 9). -/
def Obligations.RefusedRequestsChangeNothing : Prop :=
  ∀ (s : State) (r : Request) (rest : List Request), s.link.requests = r :: rest →
    let taken := { s.link with requests := rest }
    let v := ({ s with link := taken } : State).serveRequest r
    let answer (result : Result) (fields : List Field) := { s with link := taken.answered r.kind r.tag result fields }
    (s.link.replyPlaceFree = false → exec .requestAcceptance s = .next s) ∧
    (s.link.replyPlaceFree = true → s.link.raised = [] →
      (r.kind ∉ requestKinds → exec .requestAcceptance s = .next (answer .unknownKind [])) ∧
      (r.kind ∈ requestKinds → r.kind ≠ 0x58#8 → r.kind ≠ 0x5E#8 → s.link.mode = .starting →
        exec .requestAcceptance s = .next (answer .busy [])) ∧
      (v.result ≠ .ok → exec .requestAcceptance s = .next (answer v.result v.fields)))

/-- 11.3 (R187): the output queue. Queueing a report does nothing for a disabled kind; a pending report of the kind is
replaced in its place in the order; a report whose place is in transmission waits with the newest content; else it
joins at the tail. When the message in transmission is out, the oldest message that waits goes out next: a pending
one, or else the report that waited for the place now free. That the next message begins in that same event is the
model's choice (log entry 9). -/
def Obligations.ReportsTakeTheirPlace : Prop :=
  (∀ (l : Link) (k : ReportKind) (fields : List Field),
    let replaced (m : Message) : Message := if m.isReportOf k then .report k fields else m
    (l.mask[k.index] = false → l.queueReport k fields = l) ∧
    (l.mask[k.index] = true →
      (0 < l.pendingOf k → l.queueReport k fields = { l with out := l.out.map replaced }) ∧
      (l.pendingOf k = 0 → l.sending.any (Message.isReportOf k) = true → l.queueReport k fields =
        { l with waiting := l.waiting.filter (fun m => !m.isReportOf k) ++ [.report k fields] }) ∧
      (l.pendingOf k = 0 → l.sending.any (Message.isReportOf k) = false →
        l.queueReport k fields = { l with out := l.out ++ [.report k fields] }) ∧
      (l.queueReport k fields).pendingOf k = max 1 (l.pendingOf k) - (if l.pendingOf k = 0 ∧
        l.sending.any (Message.isReportOf k) then 1 else 0))) ∧
  ∀ (s : State) (m : Message), s.link.raised = [] → s.link.sending = some m →
    exec .messageSent s = .next (
      match s.link.out ++ s.link.waiting with
      | [] => { s with link := { s.link with sending := none, out := [], waiting := [] } }
      | next :: rest => { s with link := { s.link with sending := some next, out := rest, waiting := [] } })

/-! ### Status, reports, mode, settings -/

/-- 11.4, 11.7, 11.8 (R189, R190, R194, R195): GET STATUS clears the two sticky flags, IDENTIFY changes nothing, SAVE
SETTINGS keeps a snapshot of the image and makes the EEPROM's header invalid, and LOCK SETTINGS sets the lock. That
the invalid header reaches the EEPROM at the acceptance itself is the model's choice (log entry 22). What IDENTIFY
names has no value in the spec, and its widths are in part the model's (log entry 6); a name has at most 16 characters
(R198). An idle line takes a message at once (log entry 9). -/
def Obligations.StatusSaveAndLock : Prop :=
  ∀ (s : State) (tag : Byte), s.link.raised = [] → s.link.replyPlaceFree = true →
    let read := { s.link with powerOn := false }
    let name := partNameBytes Config.partName
    let identity := [.text (BitVec.ofNat 8 name.length :: name), u16 Config.siliconRevision, u16 0x0031,
      u8 (mbits Config.lineRate)]
    exec (.getStatus tag (some ())) s =
      .next { s with tb := { s.tb with lockLost := false }
                     link := read.answered 0x58#8 tag .ok s.statusFields } ∧
    name.length ≤ 16 ∧
    exec (.identify tag (some ())) s = .next { s with link := s.link.answered 0x5E#8 tag .ok identity } ∧
    (s.link.mode ≠ .starting → s.store.save = none →
      exec (.saveSettings tag (some ())) s =
        .next { s with store := { s.store with save := some ⟨s.settings.image, s.tb.frameNumber⟩
                                               eeprom := some (0x00#8 :: 0x00#8 :: s.settings.image.drop 2) }
                       link := s.link.answered 0x5B#8 tag .ok [] }) ∧
    (s.link.mode ≠ .starting →
      exec (.lockSettings tag (some ())) s =
        .next { s with store := { s.store with locked := true }, link := s.link.answered 0x5C#8 tag .ok [] })

/-- 11.3 (R188): SET REPORTS takes the mask and the interval, removes pending reports of disabled kinds, and begins
the FRAME counter again. -/
def Obligations.SetReportsTakesEffect : Prop :=
  ∀ (s : State) (tag : Byte) (a : ReportsArgs), Serving s → a.interval ≤ 250 → s.store.save = none →
    ∃ t, exec (.setReports tag (some a)) s = .next t ∧ t = { s with link := t.link } ∧
      (∀ k : Fin 8, t.link.mask[k] = a.mask.testBit k.val) ∧ t.link.interval = a.interval ∧ t.link.counter = 0 ∧
      t.link.carries (.reply 0x59#8 tag .ok []) ∧
      (∀ k fields, .report k fields ∈ t.link.out → a.mask.testBit k.index.val = true) ∧
      (∀ m ∈ s.link.out, (∀ k, m.reportKind = some k → a.mask.testBit k.index.val = true) → t.link.carries m) ∧
      t.link.rx = s.link.rx ∧ t.link.requests = s.link.requests ∧ t.link.linkErrors = s.link.linkErrors ∧
      t.link.powerOn = s.link.powerOn ∧ t.link.mode = s.link.mode

/-- 11.5 (R191): SET MODE: the present mode changes nothing; OPERATE needs valid settings, the geometry and all four
arm channels; SETUP needs an idle Take Engine and the arm at rest, and lowers the scale to creep at once. The codes, 1
for SETUP and 2 for OPERATE, are the model's choice (log entry 15). An idle line takes a message at once (log entry
9). -/
def Obligations.SetModeChangesMode : Prop :=
  ∀ (s : State) (tag : Byte), Serving s → ScaleLaw s → s.store.save = none →
    let inSetup := { s.link with mode := .setup }
    let inOperate := { s.link with mode := .operate }
    let creep := s.gov.params.creep
    let lowered := { s.gov with
      scale := min s.gov.scale creep
      figures := { s.gov.figures with minScale :=
        if creep < s.gov.scale then min s.gov.figures.minScale creep else s.gov.figures.minScale } }
    (∀ n, modeOf n = some s.link.mode →
      exec (.setMode tag (some n)) s = .next { s with link := s.link.answered 0x5A#8 tag .ok [] }) ∧
    (s.link.mode = .setup →
      exec (.setMode tag (some 2)) s =
        if s.store.valid = true ∧ s.pose.geometrySet = true ∧ s.chans[0].cfg.present = true ∧
            s.chans[1].cfg.present = true ∧ s.chans[2].cfg.present = true ∧ s.chans[3].cfg.present = true then
          .next { s with link := inOperate.answered 0x5A#8 tag .ok [] }
        else .next { s with link := s.link.answered 0x5A#8 tag .wrongState [] }) ∧
    (s.link.mode = .operate →
      exec (.setMode tag (some 1)) s =
        if s.player.state = .idle ∧ s.recorder.state = .idle ∧ s.chans[0].atRest = true ∧
            s.chans[1].atRest = true ∧ s.chans[2].atRest = true ∧ s.chans[3].atRest = true then
          .next { s with gov := lowered, link := inSetup.answered 0x5A#8 tag .ok [] }
        else .next { s with link := s.link.answered 0x5A#8 tag .busy [] })

/-- 1.8, 11.6, 11.7 (R16, R193, R194): the load ends. The image is the one the part last wrote into the EEPROM, bad
while a save's header is invalid, or else what the EEPROM brings (log entry 22). With a good image every setting is
taken from it, and the mode is OPERATE when the image holds it with the geometry set and all four arm channels
present, else SETUP; takes, lock, the previous pose and a standing latch are not in the image. With an image that does
not read, or with the EEPROM silent for 50 ms, the settings-valid flag is cleared, the mode becomes SETUP, and
everything else stands. A changed source or frame rate code restarts lock, and with REFERENCE in the image the lock
state becomes ACQUIRING at the frame boundary that the load makes. The ranges of some fields of the image, and the
order of its tag directory, are in part the model's reading (log entry 21). -/
def Obligations.LoadEndsGoodOrBad : Prop :=
  ∀ (s : State) (image : List Byte), s.link.mode = .starting → Settled s →
    let bad := { s with link := { s.link with mode := .setup }, store := { s.store with valid := false } }
    let read := s.store.eeprom.getD image
    exec .loadAckTimeout s = .next bad ∧
    (parseImage read = none → exec (.settingsLoadEnd image) s = .next bad) ∧
    (∀ rest, s.store.eeprom = some (0x00#8 :: 0x00#8 :: rest) → exec (.settingsLoadEnd image) s = .next bad) ∧
    ∀ m, parseImage read = some m →
      ∃ t, exec (.settingsLoadEnd image) s = .next t ∧ t.settings = { m with mode := t.link.mode } ∧
        (t.link.mode = if m.mode = .operate ∧ m.geometrySet = true ∧ m.chans[0].present = true ∧
            m.chans[1].present = true ∧ m.chans[2].present = true ∧ m.chans[3].present = true then .operate
          else .setup) ∧
        t.store = { s.store with valid := true } ∧ t.mem = s.mem ∧ t.recorder = s.recorder ∧ t.player = s.player ∧
        t.link.requests = s.link.requests ∧ t.link.powerOn = s.link.powerOn ∧ t.crew.warmUp = s.crew.warmUp ∧
        (∀ i : Fin 10, t.router.routes[i] = ⟨m.routes[i], .own m.routes[i], false⟩) ∧
        (∀ i : Fin 8, t.bus.locators[i].link = if m.locators[i].configured then .searching else .absent) ∧
        t.tb.frameNumber = s.tb.frameNumber ∧ t.gov.latch = s.gov.latch ∧
        t.pose = { s.pose with geometry := m.geometry, geometrySet := m.geometrySet } ∧
        (m.source ≠ s.tb.source ∨ m.rateCode ≠ s.tb.rateCode →
          t.tb.history = Vector.replicate 4 false ∧ t.tb.measured = nominalPeriod m.rateCode ∧
          t.tb.holdoverCount = 0 ∧ t.tb.phaseEstablished = false) ∧
        (s.tb.lock = .freeRun → t.tb.lock = .freeRun) ∧
        (m.source = .reference → t.tb.lock = .freeRun ∧ ∀ inp, ∃ u, exec (.frameBoundary inp) t = .next u ∧
          u.tb.lock = .acquiring ∧ u.reports (.timebase .freeRun false))

/-- 11.7 (R194): the end of a save in flight: by the verified header OK, and by a write not acknowledged, a read-back
that differs or the 500 ms FAILED, the image left bad; the save report carries the result and the frame number at
acceptance. That the bytes left bad are those the acceptance wrote is the model's choice (log entry 22). -/
def Obligations.SaveEndsWithItsResult : Prop :=
  ∀ (s : State) (v : Save), s.store.save = some v → s.link.raised = [] →
    ∀ c ok, (c = .saveEnd .headerVerified ∧ ok = true) ∨ (c = .saveEnd .notAcknowledged ∧ ok = false) ∨
        (c = .saveEnd .readBackDiffers ∧ ok = false) ∨ (c = .saveTimeout ∧ ok = false) →
      ∃ t, exec c s = .next t ∧
        t = { s with store := { s.store with
                save := none, valid := ok, eeprom := if ok then some v.image else s.store.eeprom }, link := t.link } ∧
        s.link.sameInput t.link ∧ t.reports (.save ok v.frame)

/-! ### Time Base -/

/-- 1.7 (R14): an accepted SET TIMEBASE takes the four settings and cuts the frame in progress at its next tick. A
change of source or rate code restarts lock; any other leaves lock state, history, measured period and counters. A
change of lock state is reported. Three clauses are the model's choices and reading (log entry 24): the lock state
changes, and is reported, at the acceptance, before the boundary that the cut makes; where source and rate code stand,
the pulse expectation is kept; and a slip placed for the cut frame is dropped, so that the frame step is 1. -/
def Obligations.SetTimebaseTakesEffect : Prop :=
  ∀ (s : State) (tag : Byte) (a : TimebaseArgs) (source : RefSource), Serving s → s.player.state = .idle →
    s.recorder.state = .idle → s.store.save = none → refSourceOf a.source = some source → a.rateCode ≤ 7 →
    tickRateOk a.rateCode a.tpf = true → 10 ≤ a.holdoverLimit → a.holdoverLimit ≤ 250 →
    ∃ t, exec (.setTimebase tag (some a)) s = .next t ∧ t = { s with tb := t.tb, link := t.link } ∧
      s.answers t 0x01#8 tag .ok [] ∧
      t.tb.source = source ∧ t.tb.rateCode = a.rateCode ∧ t.tb.tpf = a.tpf ∧ t.tb.holdoverLimit = a.holdoverLimit ∧
      t.tb.frameNumber = s.tb.frameNumber ∧ t.tb.tickIndex = s.tb.tickIndex ∧ t.tb.pubLock = s.tb.pubLock ∧
      t.tb.marks = s.tb.marks ∧ t.tb.lockLost = s.tb.lockLost ∧ t.tb.slipCount = s.tb.slipCount ∧
      t.tb.lastTick = s.tb.lastTick ∧ t.tb.frameStart = s.tb.frameStart ∧ t.tb.frameLen = s.tb.frameLen ∧
      t.tb.frameTpf = s.tb.frameTpf ∧ t.tb.boundaryDue = true ∧
      (s.tb.started = true → t.tb.frameStep = 1 ∧
        t.tb.frameEnd = if s.tb.tickIndex + 1 < s.tb.frameTicks then s.tb.tickInstant (s.tb.tickIndex + 1)
          else s.tb.frameEnd) ∧
      (source = s.tb.source → a.rateCode = s.tb.rateCode →
        t.tb.lock = s.tb.lock ∧ t.tb.history = s.tb.history ∧ t.tb.measured = s.tb.measured ∧
        t.tb.holdoverCount = s.tb.holdoverCount ∧ t.tb.phaseEstablished = s.tb.phaseEstablished ∧
        t.tb.expectation = s.tb.expectation ∧ t.tb.acquireDue = s.tb.acquireDue) ∧
      (source ≠ s.tb.source ∨ a.rateCode ≠ s.tb.rateCode →
        t.tb.lock = (if source = .internal then .freeRun else .acquiring) ∧
        t.tb.history = Vector.replicate 4 false ∧ t.tb.measured = nominalPeriod a.rateCode ∧
        t.tb.holdoverCount = 0 ∧ t.tb.phaseEstablished = false ∧ t.tb.expectation = none ∧
        t.tb.acquireDue = false) ∧
      (t.tb.lock ≠ s.tb.lock → t.reports (.timebase s.tb.lock false))

/-- 1.4, 1.5 (R5 to R7, R9): verdicts that leave the lock state as it is, outside LOCKED. A pulse without an
expectation, or outside the window of ±64/256 tick around it, is bad and starts a chain; a pulse within it is good,
and renews the measured period after another good one; a window that closes empty, or a nominal frame period without a
pulse after the entry, is bad. With the source INTERNAL nothing changes. Instants are in the unit of log entry 3. -/
def Obligations.PulsesAreJudged : Prop :=
  ∀ (s : State) (dt : Nat), Settled s →
    let instant := s.tb.lastTick + 5 * dt
    let h := s.tb.history
    let length := if s.tb.lock = .holdover then s.tb.measured else nominalPeriod s.tb.rateCode
    let bad := { s.tb with history := #v[h[1], h[2], h[3], false], lastGoodPulse := none }
    (s.tb.source = .internal →
      exec (.referencePulse dt) s = .next s ∧ exec .pulseWindowClose s = .next s ∧
      exec (.noPulseAfterEntry dt) s = .next s) ∧
    (s.tb.source = .reference → s.tb.lock = .acquiring ∨ s.tb.lock = .holdover ∨ s.tb.lock = .noReference →
      (s.tb.expectation = none →
        exec (.referencePulse dt) s =
          .next { s with tb := { bad with entryWait := false, expectation := some (instant + length) } } ∧
        exec .pulseWindowClose s = .next s ∧
        (s.tb.entryWait = true →
          exec (.noPulseAfterEntry dt) s =
            .next { s with tb := { bad with
              entryWait := false, expectation := some (instant + nominalPeriod s.tb.rateCode) } })) ∧
      ∀ due, s.tb.expectation = some due →
        let off := ((instant : Int) - due).natAbs
        (s.tb.frameLen < 4 * s.tb.frameTpf * off →
          exec (.referencePulse dt) s =
            .next { s with tb := { bad with entryWait := false, expectation := some (instant + length) } }) ∧
        exec .pulseWindowClose s = .next { s with tb := { bad with expectation := some (due + length) } } ∧
        (4 * s.tb.frameTpf * off ≤ s.tb.frameLen → s.tb.lock ≠ .noReference →
          (h[1] && h[2] && h[3]) = false →
          let measured := match h[3], s.tb.lastGoodPulse with
            | true, some before => instant - before
            | _, _ => s.tb.measured
          let next := if s.tb.lock = .holdover then measured else nominalPeriod s.tb.rateCode
          exec (.referencePulse dt) s =
            .next { s with tb := { s.tb with
              history := #v[h[1], h[2], h[3], true], lastGoodPulse := some instant, measured := measured
              entryWait := false, expectation := some (instant + next) } }))

/-- 1.5, 1.6 (R8, R12, R13): the changes of lock state at a pulse. NO_REFERENCE goes to ACQUIRING at a good verdict.
ACQUIRING and HOLDOVER go to LOCKED at the verdict that makes four good: the frame in progress ends on the first
predicted pulse at or after its free-running boundary, with its ticks counted to nearest; with phase established, a
displacement of more than half a period is a slip, which skips a frame number. Each change is reported. That it ends a
frame which SET TIMEBASE has cut in the same way is the model's choice (log entry 24), and instants are in the unit of
log entry 3. -/
def Obligations.LockIsGained : Prop :=
  ∀ (s : State) (dt due : Nat), s.link.raised = [] → s.tb.source = .reference → s.tb.expectation = some due →
    let instant := s.tb.lastTick + 5 * dt
    4 * s.tb.frameTpf * ((instant : Int) - due).natAbs ≤ s.tb.frameLen →
    ∃ t, exec (.referencePulse dt) s = .next t ∧ t = { s with tb := t.tb, link := t.link } ∧
      s.link.sameInput t.link ∧
      (s.tb.lock = .noReference → t.tb.lock = .acquiring ∧ t.tb.history[3] = true ∧
        t.tb.expectation = some (instant + nominalPeriod s.tb.rateCode) ∧ t.tb.frameEnd = s.tb.frameEnd ∧
        t.reports (.timebase .noReference false)) ∧
      (s.tb.lock = .acquiring ∨ s.tb.lock = .holdover → s.tb.history[1] = true → s.tb.history[2] = true →
        s.tb.history[3] = true → 0 < t.tb.measured → instant < s.tb.frameEnd →
        let slips := s.tb.phaseEstablished = true ∧ t.tb.measured < 2 * (t.tb.frameEnd - s.tb.frameEnd)
        t.tb.lock = .locked ∧ t.tb.history = Vector.replicate 4 true ∧
        (∀ before, s.tb.lastGoodPulse = some before → t.tb.measured = instant - before) ∧
        (∃ n, 1 ≤ n ∧ t.tb.frameEnd = instant + n * t.tb.measured) ∧ s.tb.frameEnd ≤ t.tb.frameEnd ∧
        t.tb.frameEnd < s.tb.frameEnd + t.tb.measured ∧
        t.tb.frameTicks = (2 * (t.tb.frameEnd - s.tb.frameStart) * s.tb.frameTpf + s.tb.frameLen)
          / (2 * s.tb.frameLen) ∧
        t.tb.frameStep = (if slips then 2 else 1) ∧ (t.tb.gathered.slip = true ↔ s.tb.gathered.slip = true ∨ slips) ∧
        t.tb.slipCount = (if slips then min 1023 (s.tb.slipCount + 1) else s.tb.slipCount) ∧
        t.tb.phaseEstablished = true ∧ t.tb.expectation = none ∧ t.tb.frameLen = s.tb.frameLen ∧
        t.tb.frameTpf = s.tb.frameTpf ∧ t.tb.frameNumber = s.tb.frameNumber ∧ t.tb.tickIndex = s.tb.tickIndex ∧
        t.tb.lockLost = s.tb.lockLost ∧ t.tb.holdoverCount = s.tb.holdoverCount ∧
        t.reports (.timebase s.tb.lock (decide slips)))

/-- 1.4, 1.5, 1.6, 1.7 (R5, R8, R10, R13, R14): LOCKED. A pulse is counted, and kept with its offset when it lies in
the boundary's window, with the tick in force. At the close of the window exactly one pulse, kept, is good: the frame
that the boundary began lasts the measured period and the offset, in that tick. A frame that SET TIMEBASE has cut
keeps its end. Anything else is bad, and two bad of the last four lose the lock. The rounding of the offset is free
(log entry 4), instants are in the unit of log entry 3, and the width of the slip count in the report is log entry 7.
-/
def Obligations.LockedWindowsAreJudged : Prop :=
  ∀ (s : State) (dt : Nat), Settled s → s.tb.source = .reference → s.tb.lock = .locked →
    let instant := s.tb.lastTick + 5 * dt
    let boundary := if s.tb.windowOpen then s.tb.frameStart else s.tb.frameEnd
    let inside := 4 * s.tb.frameTpf * ((instant : Int) - boundary).natAbs ≤ s.tb.frameLen
    let offset := roundBy Config.pulseOffsetRounding
      (((instant : Int) - boundary) * 256 * s.tb.frameTpf) s.tb.frameLen
    let h := s.tb.history
    let shut := { s.tb with windowOpen := false, windowPulses := 0, windowHit := none }
    let lost := { shut with history := #v[h[1], h[2], h[3], false], lastGoodPulse := none }
    exec (.referencePulse dt) s = .next { s with tb := { s.tb with
      windowPulses := min 2 (s.tb.windowPulses + 1)
      windowHit := if inside then some ⟨instant, offset, s.tb.frameLen, s.tb.frameTpf⟩ else s.tb.windowHit } } ∧
    (s.tb.windowOpen = false → exec .pulseWindowClose s = .next s) ∧
    (s.tb.windowOpen = true → s.tb.windowPulses ≠ 1 ∨ s.tb.windowHit = none →
      (h[1] && h[2] && h[3]) = true → exec .pulseWindowClose s = .next { s with tb := lost }) ∧
    (s.tb.windowOpen = true → s.tb.windowPulses ≠ 1 ∨ s.tb.windowHit = none →
      (h[1] && h[2] && h[3]) = false →
      ∃ link, exec .pulseWindowClose s = .next { s with
          tb := { lost with lock := .holdover, lockLost := true, holdoverCount := 0, expectation := some s.tb.frameEnd }
          link := link } ∧
        s.link.sameInput link ∧
        (s.link.mask[5] = true →
          link.carries (.report .timebase [u8 3, u8 2, u32 s.tb.frameNumber, u16 s.tb.slipCount, flag false]))) ∧
    ∀ hit : PulseHit, s.tb.windowOpen = true → s.tb.windowPulses = 1 → s.tb.windowHit = some hit →
      let measured : Nat := match h[3], s.tb.lastGoodPulse with
        | true, some before => hit.instant - before
        | _, _ => s.tb.measured
      let length : Nat := (Int.ofNat measured + floorDiv (hit.offset * hit.tickLen) (256 * hit.tickTpf)).toNat
      let kept := { shut with
        history := #v[h[1], h[2], h[3], true], lastGoodPulse := some hit.instant, measured := measured }
      exec .pulseWindowClose s = .next { s with tb :=
        if s.tb.cut then kept else { kept with frameLen := length, frameEnd := s.tb.frameStart + length } }

/-- 1.1, 1.3, 1.5, 2.3, 2.4, 5.2, 5.4, 6.4, 7.1, 9.3 (R1, R4, R8, R22, R25, R77, R82, R83, R106, R115, R152): a tick
inside a frame raises the tick index by 1 and publishes the lock state; the frame number and the published marks hold,
and the frame gathers the marks its lock state calls for, the least scale and the highest near count that the Governor
publishes, whether a scale was below 1024, and whether the stop state stood out of RUN. The settings, the crew table,
the locators and the bytes of take memory stand, and so do the figures and the mark that the last boundary published;
every present channel begins a read, whose completion is its step, and until then its demand stands. That UNLOCKED is
judged at each tick, by the source that stands there, is the model's choice (log entry 24). -/
def Obligations.TickInsideFrame : Prop :=
  ∀ (s : State) (inp : TickInputs), s.tb.boundaryDue = false →
    ∃ t, exec (.tick inp) s = .next t ∧
      t.tb = { s.tb with
        tickIndex := s.tb.tickIndex + 1, lastTick := s.tb.tickInstant (s.tb.tickIndex + 1), pubLock := s.tb.lock
        gathered := ⟨s.tb.gathered.slip, s.tb.gathered.holdover || s.tb.lock == .holdover,
          s.tb.gathered.unlocked ||
            (s.tb.source == .reference && (s.tb.lock == .acquiring || s.tb.lock == .noReference))⟩ } ∧
      t.settings = s.settings ∧ t.store = s.store ∧ t.crew = s.crew ∧ t.bus = s.bus ∧
      t.mem.cells = s.mem.cells ∧ t.gov.published = s.gov.published ∧ t.stop.pubMark = s.stop.pubMark ∧
      t.gov.figures = ⟨min s.gov.figures.minScale t.gov.scale, max s.gov.figures.near t.gov.near,
        s.gov.figures.governed || decide (t.gov.scale < 1024)⟩ ∧
      t.stop.mark = (s.stop.mark || decide (t.stop.state ≠ .run)) ∧
      t.recorder.fill ≤ s.recorder.fill ∧ s.link.sameInput t.link ∧
      ∀ i : Fin 10, t.chans[i].cfg = s.chans[i].cfg ∧ t.chans[i].encoder = s.chans[i].encoder ∧
        t.chans[i].demand = s.chans[i].demand ∧ t.chans[i].faults = s.chans[i].faults ∧
        t.chans[i].overspeed = s.chans[i].overspeed ∧ t.chans[i].readPending = s.chans[i].cfg.present

/-- 1.1, 1.3, 1.5, 1.8, 3.4, 6.4, 7.1, 11.3 (R1, R2, R4, R11, R16, R62, R106, R115, R188): FRAME_BOUNDARY is the tick
that is due as one: the first after a reset, with frame number 0, and after it the one that ends the frame. The frame
number rises by the frame's step, the marks and figures of the frame just ended are published, those of the new frame
begin with this tick, and the new frame has the length its lock state calls for. The boundary that a load with
REFERENCE makes goes to ACQUIRING. In HOLDOVER the counter rises, and at its limit HOLDOVER_LIMIT_REACHED is this
boundary, from which NO_REFERENCE runs nominal frames; that the boundary publishes that state is log entry 24.
FRAME_REPORT_DUE is the boundary at which the FRAME counter reaches the interval, and queues the FRAME report. That a
row naming a threshold stands for the event that reaches it is the model's choice (log entry 2), and so is the order
of the boundary's works (log entry 11). -/
def Obligations.FrameBoundaryTurnsTheFrame : Prop :=
  (∀ inp : TickInputs, ∃ t, exec (.frameBoundary inp) State.reset = .next t ∧ t.tb.started = true ∧
    t.tb.frameNumber = 0 ∧ t.tb.tickIndex = 0 ∧ t.tb.frameLen = nominalPeriod 2 ∧ t.tb.frameTicks = 20) ∧
  ∀ (s : State) (inp : TickInputs), s.tb.boundaryDue = true → s.link.raised = [] →
    let holding := s.tb.started = true ∧ s.tb.acquireDue = false ∧ s.tb.lock = .holdover
    ∃ t, exec (.frameBoundary inp) s = .next t ∧ exec (.tick inp) s = .next t ∧ t.tb.started = true ∧
      t.tb.frameNumber = (if s.tb.started then (s.tb.frameNumber + s.tb.frameStep) % 2 ^ 32 else s.tb.frameNumber) ∧
      t.tb.tickIndex = 0 ∧
      t.tb.marks = s.tb.gathered ∧ t.tb.pubLock = t.tb.lock ∧ t.tb.frameStart = s.tb.frameEnd ∧
      t.tb.frameEnd = t.tb.frameStart + t.tb.frameLen ∧ t.tb.frameTpf = s.tb.tpf ∧ t.tb.frameTicks = s.tb.tpf ∧
      t.tb.frameStep = 1 ∧ t.tb.history = s.tb.history ∧ t.tb.measured = s.tb.measured ∧
      t.tb.frameLen = (if t.tb.lock = .locked ∨ t.tb.lock = .holdover then s.tb.measured
        else nominalPeriod s.tb.rateCode) ∧
      (¬holding → t.tb.holdoverCount = s.tb.holdoverCount ∧
        t.tb.lock = if s.tb.acquireDue then .acquiring else s.tb.lock) ∧
      (s.tb.acquireDue = true → t.tb.acquireDue = false ∧ t.tb.expectation = none ∧ t.tb.entryWait = true ∧
        (s.tb.lock ≠ .acquiring → t.reports (.timebase s.tb.lock false))) ∧
      (holding → t.tb.holdoverCount = s.tb.holdoverCount + 1 ∧
        t.tb.lock = if s.tb.holdoverLimit ≤ s.tb.holdoverCount + 1 then .noReference else .holdover) ∧
      (holding → s.tb.holdoverLimit ≤ s.tb.holdoverCount + 1 →
        exec (.holdoverLimitReached inp) s = .next t ∧ t.reports (.timebase .holdover false)) ∧
      t.gov.published = s.gov.figures ∧ t.stop.pubMark = s.stop.mark ∧
      t.gov.figures = ⟨min (if s.stop.sampled then 1024 else 0) t.gov.scale, t.gov.near,
        decide (t.gov.scale < 1024)⟩ ∧
      (t.stop.state ≠ .run → t.stop.mark = true) ∧
      (t.stop.state = .run → ¬(s.gov.params.autoResume = true ∧ s.gov.latch.isSet = true ∧
        s.gov.latch.releaseHeld = true) → t.stop.mark = false) ∧
      (∀ i : Fin 10, t.chans[i].overspeedLast = s.chans[i].overspeed) ∧
      t.settings = s.settings ∧ t.store = s.store ∧ t.link.rx = s.link.rx ∧ t.link.requests = s.link.requests ∧
      (s.link.interval = 0 → t.link.counter = s.link.counter) ∧
      (0 < s.link.interval → s.link.counter + 1 < s.link.interval → t.link.counter = s.link.counter + 1) ∧
      (0 < s.link.interval → s.link.interval ≤ s.link.counter + 1 →
        exec (.frameReportDue inp) s = .next t ∧ t.link.counter = 0 ∧ t.reports .frame)

/-! ### Channels -/

/-- 2.2 (R19, R20): an accepted CONFIGURE CHANNEL replaces the configuration; everything else of the record stands,
but that a channel that becomes present starts its bad read count and demand step, and one that becomes absent is
DISABLED without faults, its demand, encoder position and counts at 0. That its rest counter and outstanding read go
too is log entry 17, and that its at-target mark does is log entry 18. The unit value stands, and contributes to the
pose again once a new one is published. The settings lock holds the safety fields. An idle line takes a message at
once (log entry 9). -/
def Obligations.ConfigureChannelTakesEffect : Prop :=
  ∀ (s : State) (tag : Byte) (i : Fin 10) (cfg : ChannelConfig), Serving s → cfg.Valid → s.store.save = none →
    s.chans[i].state = .disabled ∨ s.chans[i].state = .faulted →
    let c := s.chans[i]
    let ok (c' : Channel) := { s with chans := s.chans.set i c', link := s.link.answered 0x08#8 tag .ok [] }
    let safe := { cfg with parkDelay := c.cfg.parkDelay, pickupWindow := c.cfg.pickupWindow } = c.cfg
    let request := Instr.configureChannel tag (some (i.val, cfg.args))
    (c.cfg.present = true → cfg.present = true ∨ (4 ≤ i.val ∨ s.link.mode = .setup) ∧ s.recorder.state = .idle) →
    (s.store.locked = true → ¬safe →
      exec request s = .next { s with link := s.link.answered 0x08#8 tag .locked [] }) ∧
    (s.store.locked = false ∨ safe →
      (c.cfg.present = cfg.present → exec request s = .next (ok { c with cfg := cfg })) ∧
      (c.cfg.present = false → cfg.present = true →
        exec request s = .next (ok { c with
          cfg := cfg, badRun := 0, demandStep := 0, unitFresh := false, readPending := false })) ∧
      (c.cfg.present = true → cfg.present = false →
        let absent := { c with
          cfg := cfg, state := .disabled, faults := .empty, p := 0, v := 0, demand := 0, encoder := 0, badRun := 0
          encoderErrors := 0, rest := 0, unitFresh := false, readPending := false, atTarget := false }
        (c.state = .disabled → exec request s = .next (ok absent)) ∧
        (c.state = .faulted → ∃ t, exec request s = .next t ∧
          t = { s with chans := s.chans.set i absent
                       stop := { s.stop with armFaults := t.stop.armFaults }, link := t.link } ∧
          (∀ k : Fin 4, t.stop.armFaults[k] = if k.val = i.val then false else s.stop.armFaults[k]) ∧
          s.answers t 0x08#8 tag .ok [] ∧ t.reports (.fault i))))

/-- 2.4, 2.5, 2.6 (R26, R27, R33, R34, R39): ENABLE, DISABLE and CLEAR FAULTS, channel by channel, each with its
outcome in the reply. Enabling takes a present DISABLED channel within its limits to RELEASING and is refused in
EMERGENCY; disabling is refused for a channel the Player holds, and takes a live channel to STOPPING and a PARKED one
to DISABLED; clearing takes a FAULTED channel whose faults are gone to DISABLED and out of the arm-fault set. The
outcome of a channel that CLEAR FAULTS does not name, and the mask bits beyond the channels, are log entry 15; the
at-target mark is log entry 18; that the brake timer is 0 while none runs, and that the stop phase stands outside
STOPPING, are the model's choices (log entry 7); and that of several cleared channels the FAULT report names the one
with the highest index is the model's choice (log entry 13). An idle line takes a message at once (log entry 9). -/
def Obligations.EnableDisableClear : Prop :=
  ∀ (s : State) (tag : Byte) (mask : Nat), Serving s →
    let rate := s.tb.tickRate
    let group (i : Fin 10) := mask.testBit (if i.val < 4 then 0 else if i.val < 7 then 1 else 2)
    let enables (i : Fin 10) := group i && s.chans[i].cfg.present && s.chans[i].state == .disabled &&
      s.chans[i].withinLimits
    let outcome (i : Fin 10) : Nat :=
      if !group i then 4 else if !s.chans[i].cfg.present then 0 else if s.chans[i].state ≠ .disabled then 3
      else if s.chans[i].withinLimits then 1 else 2
    let enabled (c : Channel) :=
      { c with state := .releasing, p := 256 * c.encoder, v := 0, atTarget := false
               brakeTimer := ceilDiv (c.cfg.releaseTime * rate) 1000 }
    let live (c : Channel) := c.state == .releasing || c.state == .active || c.state == .parking
    let disables (i : Fin 10) := mask.testBit i.val && s.chans[i].cfg.present &&
      (live s.chans[i] || s.chans[i].state == .parked)
    let disabled (c : Channel) :=
      if c.state = .parked then { c with state := .disabled, brakeTimer := 0, atTarget := false }
      else if c.state = .parking then { c with state := .stopping, phase := .engage, atTarget := false }
      else if c.v = 0 then { c with state := .stopping, phase := .engage, atTarget := false
                                    brakeTimer := ceilDiv (c.cfg.engageTime * rate) 1000 }
      else { c with state := .stopping, phase := .ramp, atTarget := false, brakeTimer := 0 }
    let routes (sel : Fin 10 → Bool) : Vector Route 10 := Vector.ofFn fun i =>
      if sel i then { s.router.routes[i] with armed := false } else s.router.routes[i]
    let disarmed (sel : Fin 10 → Bool) := { s.router with routes := routes sel }
    let gone (c : Channel) := (c.faults.encoderLost → c.readGood) ∧ (c.faults.driveFault → !c.faultLine)
    let clears (i : Fin 10) := decide (mask.testBit i.val ∧ s.chans[i].state = .faulted ∧ gone s.chans[i])
    let cleared (i : Fin 10) : Nat :=
      if s.chans[i].state ≠ .faulted then 2 else if mask.testBit i.val ∧ gone s.chans[i] then 0 else 1
    (s.stop.state = .emergency → exec (.enableChannels tag (some mask)) s =
      .next { s with link := s.link.answered 0x0A#8 tag .refusedSafety [] }) ∧
    (s.stop.state ≠ .emergency → exec (.enableChannels tag (some mask)) s =
      .next { s with chans := Vector.ofFn fun i => if enables i then enabled s.chans[i] else s.chans[i]
                     link := s.link.answered 0x0A#8 tag .ok ((List.finRange 10).map fun i => u8 (outcome i)) }) ∧
    ((∃ i : Fin 10, mask.testBit i.val ∧ s.router.routes[i].held) → exec (.disableChannels tag (some mask)) s =
      .next { s with link := s.link.answered 0x0B#8 tag .busy [] }) ∧
    ((∀ i : Fin 10, mask.testBit i.val → s.router.routes[i].held = false) →
      exec (.disableChannels tag (some mask)) s =
        .next { s with chans := Vector.ofFn fun i => if disables i then disabled s.chans[i] else s.chans[i]
                       router := disarmed disables
                       link := s.link.answered 0x0B#8 tag .ok ((List.finRange 10).map fun i => flag (disables i)) }) ∧
    ∃ t, exec (.clearFaults tag (some mask)) s = .next t ∧
      t = { s with chans := t.chans, router := disarmed clears
                   stop := { s.stop with armFaults := t.stop.armFaults }, link := t.link } ∧
      (∀ i : Fin 10, t.chans[i] =
        if clears i then
          { s.chans[i] with state := .disabled, faults := .empty, brakeTimer := 0, atTarget := false }
        else s.chans[i]) ∧
      (∀ k : Fin 4, t.stop.armFaults[k] = if clears ⟨k.val, by omega⟩ then false else s.stop.armFaults[k]) ∧
      s.answers t 0x0C#8 tag .ok ((List.finRange 10).map fun i => u8 (cleared i)) ∧
      ∀ i : Fin 10, clears i = true → (∀ j : Fin 10, i < j → clears j = false) → t.reports (.fault i)

/-- 2.1, 2.3, 2.4, 2.6, 10.5, 12.3 (R18, R22 to R25, R28, R37, R38, R176): the completion of a read is the channel's
step. A good read gives the position and WARN; a bad one extrapolates the position once, and the second in a row is
ENCODER_LOST. A fault line found with the drive enabled is DRIVE_FAULT; else ready withdrawn in ACTIVE, PARKING or
STOPPING is DRIVE_NOT_READY, and there a demand further from the encoder than the following limit is FOLLOWING. That
the fault line comes before ready is log entry 18, and that the check byte is taken unreflected log entry 30. A held
channel that enters FAULTED while the Player is PLAYING sets CHANNEL_FAULT in the running pass, and an arm channel's
EMERGENCY then closes that pass STOPPED. A DISABLED or FAULTED channel's demand follows its encoder. -/
def Obligations.EncoderReadIsTheStep : Prop :=
  ∀ (s : State) (i : Fin 10) (bytes : Vector Byte 6) (lines : DriveLines), s.link.raised = [] → CauseLaw s →
    s.chans[i].cfg.present = true → s.chans[i].readPending = true →
    let c := s.chans[i]
    let good := crc8 (bytes.toList.take 5) = bytes[5]
    let follows (c' : Channel) :=
      (c.state = .disabled → c'.state = .disabled) ∧ c'.p = 256 * c'.encoder ∧ c'.v = 0 ∧ c'.demand = c'.encoder
    let judged (c' : Channel) := c.state = .active ∨ c.state = .parking ∨ c.state = .stopping → lines.fault = false →
      if lines.ready = false then c'.state = .faulted ∧ c'.faults = { c.faults with driveNotReady := true }
      else if c.cfg.followingLimit < (c'.demand - c'.encoder).natAbs then
        c'.state = .faulted ∧ c'.faults = { c.faults with following := true }
      else c'.state ≠ .faulted ∧ c'.faults = c.faults
    (good → ∃ t, exec (.encoderAnswer i bytes lines) s = .next t ∧ s.steps t i lines ∧
      t.chans[i].readGood = true ∧ t.chans[i].encoder = toSigned 4 (leNat (bytes.toList.take 4)) ∧
      t.chans[i].badRun = 0 ∧ t.chans[i].encoderErrors = c.encoderErrors ∧
      t.chans[i].warn = bytes[4].getLsbD 0 ∧ judged t.chans[i] ∧
      (c.state = .disabled ∨ c.state = .faulted → follows t.chans[i] ∧ t.chans[i].faults = c.faults) ∧
      (c.driveEnable = true → lines.fault = true →
        t.chans[i].state = .faulted ∧ t.chans[i].faults = { c.faults with driveFault := true })) ∧
    (∀ e, e = .encoderReadWindowClose i lines ∨ (e = .encoderAnswer i bytes lines ∧ ¬good) →
      ∃ t, exec e s = .next t ∧ s.steps t i lines ∧ t.chans[i].readGood = false ∧
        t.chans[i].encoder = (if c.badRun = 0 then c.encoder + c.demandStep else c.encoder) ∧
        t.chans[i].badRun = min 2 (c.badRun + 1) ∧ t.chans[i].encoderErrors = min 1023 (c.encoderErrors + 1) ∧
        t.chans[i].warn = c.warn ∧
        (c.badRun = 1 → t.chans[i].state = .faulted ∧ t.chans[i].faults.encoderLost = true) ∧
        (c.badRun ≠ 1 → judged t.chans[i]) ∧
        (c.badRun ≠ 1 → c.state = .disabled ∨ c.state = .faulted →
          follows t.chans[i] ∧ t.chans[i].faults = c.faults))

/-- 2.4, 2.5, 3.3 (R27, R29 to R31, R33, R52): the steps of a channel outside the motion of ACTIVE. The brake timer
falls by 1 at a step and expires at 0: RELEASING goes to ACTIVE, or without ready to FAULTED; PARKING to PARKED; the
ENGAGE phase of STOPPING to DISABLED. A channel that stands still counts frames, and at a nonzero park delay goes to
PARKING. The RAMP phase of STOPPING brings the velocity toward 0 by the stop deceleration and ends in ENGAGE. A PARKED
channel arms by its encoder, and leaves its park when its source asks for motion: to RELEASING, or outside its limits
to DISABLED with a FAULT report. That a row naming a threshold stands for the step that reaches it is the model's
choice (log entry 2), and that the check byte is taken unreflected is log entry 30. -/
def Obligations.TimersEndAtAStep : Prop :=
  ∀ (s : State) (i : Fin 10) (bytes : Vector Byte 6) (ready : Bool), s.link.raised = [] → CauseLaw s →
    s.chans[i].cfg.present = true → s.chans[i].readPending = true → s.chans[i].cfg.Valid →
    crc8 (bytes.toList.take 5) = bytes[5] →
    let c := s.chans[i]
    let cfg := c.cfg
    let route := s.router.routes[i]
    let lines : DriveLines := ⟨ready, false⟩
    let step := exec (.encoderAnswer i bytes lines) s
    let expiry := exec (.brakeTimerExpiry i (.answer bytes) lines) s
    let position := toSigned 4 (leNat (bytes.toList.take 4))
    let ticks (ms : Nat) := ceilDiv (ms * s.tb.tickRate) 1000
    let engaging := c.state = .parking ∨ (c.state = .stopping ∧ c.phase = .engage)
    (1 < c.brakeTimer →
      c.state = .releasing ∨ (ready = true ∧ engaging ∧ (c.p / 256 - position).natAbs ≤ cfg.followingLimit) →
      ∃ t, step = .next t ∧ s.steps t i lines ∧ t.chans[i].state = c.state ∧ t.chans[i].phase = c.phase ∧
        t.chans[i].brakeTimer = c.brakeTimer - 1 ∧ t.chans[i].p = c.p ∧ t.chans[i].v = c.v) ∧
    (c.brakeTimer ≤ 1 →
      (c.state = .releasing → ∃ t, expiry = .next t ∧ step = .next t ∧ s.steps t i lines ∧
        if ready then
          t.chans[i].state = .active ∧ t.chans[i].p = c.p ∧ t.chans[i].v = 0 ∧ t.chans[i].rest = 0 ∧
          t.chans[i].faults = c.faults
        else t.chans[i].state = .faulted ∧ t.chans[i].faults = { c.faults with driveNotReady := true } ∧
          t.chans[i].p = 256 * position) ∧
      (ready = true → engaging → ∃ t, expiry = .next t ∧ step = .next t ∧ s.steps t i lines ∧
          t.chans[i].state = (if c.state = .parking then .parked else .disabled) ∧
          t.chans[i].p = 256 * position ∧ t.chans[i].v = 0 ∧ t.chans[i].faults = c.faults)) ∧
    (ready = true → c.state = .active → c.v = 0 → route.active = .own .hold → s.tb.tickIndex = 0 →
      s.player.state = .idle → s.stop.state ≠ .protective → cfg.softMin * 256 ≤ c.p →
      c.p ≤ cfg.softMax * 256 → (c.p / 256 - position).natAbs ≤ cfg.followingLimit →
      (cfg.parkDelay = 0 ∨ c.rest + 1 < cfg.parkDelay → ∃ t, step = .next t ∧ s.steps t i lines ∧
        t.chans[i].state = .active ∧ t.chans[i].rest = c.rest + 1 ∧ t.chans[i].p = c.p ∧ t.chans[i].v = 0) ∧
      (cfg.parkDelay ≠ 0 → cfg.parkDelay ≤ c.rest + 1 →
        ∃ t, exec (.parkDelayReached i (.answer bytes) lines) s = .next t ∧ step = .next t ∧ s.steps t i lines ∧
          t.chans[i].state = .parking ∧ t.chans[i].p = c.p ∧ t.chans[i].v = 0 ∧ t.chans[i].faults = c.faults ∧
          t.chans[i].brakeTimer = ticks cfg.engageTime)) ∧
    (ready = true → c.state = .stopping → c.phase = .ramp →
      let slowed := if c.v < 0 then min 0 (c.v + cfg.stopDecel) else max 0 (c.v - cfg.stopDecel)
      let w := max (-cfg.vmax) (min cfg.vmax slowed)
      let next : Int × Int :=
        if cfg.softMax * 256 < c.p + w then (cfg.softMax * 256, 0)
        else if c.p + w < cfg.softMin * 256 then (cfg.softMin * 256, 0) else (c.p + w, w)
      (next.1 / 256 - position).natAbs ≤ cfg.followingLimit →
      ∃ t, step = .next t ∧ s.steps t i lines ∧ t.chans[i].state = .stopping ∧ t.chans[i].faults = c.faults ∧
        t.chans[i].p = next.1 ∧ t.chans[i].v = next.2 ∧
        if next.2 = 0 then t.chans[i].phase = .engage ∧ t.chans[i].brakeTimer = ticks cfg.engageTime
        else t.chans[i].phase = .ramp) ∧
    (c.state = .parked →
      (route.active = .own .hold → ∃ t, step = .next t ∧ s.steps t i lines ∧ t.chans[i].state = .parked ∧
        t.chans[i].p = 256 * position ∧ t.chans[i].v = 0 ∧ t.chans[i].faults = c.faults) ∧
      (∀ target value, route.active = .own (.preset target value) → cfg.softMin ≤ target → target ≤ cfg.softMax →
        s.stop.state ≠ .hold ∨ 7 ≤ i.val → 4 ≤ i.val ∨ s.gov.scale = 1024 →
        ∃ t, step = .next t ∧ s.steps t i lines ∧ t.chans[i].p = 256 * position ∧ t.chans[i].v = 0 ∧
          t.chans[i].faults = c.faults ∧
          if position < cfg.softMin ∨ cfg.softMax < position then
            t.chans[i].state = .disabled ∧ t.reports (.fault i)
          else if target = position then t.chans[i].state = .parked
          else t.chans[i].state = .releasing ∧ t.chans[i].brakeTimer = ticks cfg.releaseTime) ∧
      ∀ k : Fin 12, s.router.controls[k].stale = false → cfg.softMin ≤ position → position ≤ cfg.softMax →
        let x := s.router.controls[k].value
        let may := s.stop.state = .run ∨ s.stop.state = .protective ∨ (s.stop.state = .hold ∧ 7 ≤ i.val)
        let mapped := cfg.softMin + (x + 32767) * (cfg.softMax - cfg.softMin) / 65534
        (route.active = .own (.rate k) → ∃ t, step = .next t ∧ s.steps t i lines ∧
          (t.router.routes[i].armed = true ↔ route.armed = true ∨ (may ∧ x.natAbs ≤ s.router.deadband))) ∧
        (route.active = .own (.position k) → ∃ t, step = .next t ∧ s.steps t i lines ∧
          (t.router.routes[i].armed = true ↔
            route.armed = true ∨ (may ∧ (mapped - position).natAbs ≤ cfg.pickupWindow))))

/-! ### Demand Router and trajectories -/

/-- 3.2 (R48 to R50): the control table. CONTROL SAMPLE sets the value and age of every input it names, the last pair
of an index standing and −32768 becoming −32767; the router form sets timeout and deadband; each tick ages every
input, and an age beyond the timeout makes it stale, at CONTROL_INPUT_STALE. That CONTROL_INPUT_STALE stands for the
tick that reaches the age is the model's choice (log entry 2), and that a shorter timeout acts at the next tick is log
entry 18. An idle line takes a message at once (log entry 9). -/
def Obligations.ControlTableIsKept : Prop :=
  ∀ s : State,
    (∀ (tag : Byte) (pairs : List (Nat × Int)), Serving s → pairs ≠ [] → pairs.length ≤ 12 →
      (∀ p ∈ pairs, p.1 < 12) →
      let sampled : Vector Control 12 := Vector.ofFn fun k =>
        match pairs.reverse.find? fun p => p.1 == k.val with
        | some p => ⟨if p.2 < -32767 then -32767 else p.2, 0, false⟩
        | none => s.router.controls[k]
      exec (.controlSample tag (some pairs)) s =
        .next { s with router := { s.router with controls := sampled }, link := s.link.answered 0x12#8 tag .ok [] }) ∧
    (∀ (tag : Byte) (timeout deadband : Nat), Serving s → s.store.save = none → 50 ≤ timeout → timeout ≤ 1000 →
      deadband ≤ 2048 →
      exec (.setRouteRouterForm tag (some (timeout, deadband))) s =
        .next { s with router := { s.router with controlTimeout := timeout, deadband := deadband }
                       link := s.link.answered 0x10#8 tag .ok [] }) ∧
    ∀ (inp : TickInputs) (k : Fin 12),
      let limit := ceilDiv (s.router.controlTimeout * s.tb.tickRate) 1000
      let c := s.router.controls[k]
      ∃ t, exec (.tick inp) s = .next t ∧
        t.router.controls[k] = ⟨c.value, min 65535 (c.age + 1), c.stale || limit < min 65535 (c.age + 1)⟩ ∧
        (c.stale = false → limit < min 65535 (c.age + 1) → exec (.controlInputStale k inp) s = .next t) ∧
        (Settled s → c.stale = true ∨ min 65535 (c.age + 1) ≤ limit →
          exec (.controlInputStale k inp) s = .next s)

/-- 3.1, 8.3, 8.4 (R44, R45, R136, R138): an accepted SET ROUTE replaces the configured source, a physical PRESET by
the counts its lens table gives. Unless the Player holds the channel the active source follows, unarmed, and FOCUS
starts or stops following, also anew where it already follows. FOLLOW needs FOCUS and its table. That the follow
record starts anew, and the at-target mark, are log entry 18, and the byte that says beyond the table is log entry 28.
An idle line takes a message at once (log entry 9). -/
def Obligations.SetRouteTakesEffect : Prop :=
  ∀ (s : State) (tag : Byte) (i : Fin 10) (src : RouteSource), Serving s → s.store.save = none →
    let r := s.router.routes[i]
    let route : Route := if r.held then { r with configured := src } else ⟨src, .own src, false⟩
    let follow : FollowRecord :=
      if src = .follow then ⟨.holding, s.chans[i].demand, none, false, false⟩
      else { s.lens.follow with state := .inactive, followLost := false, beyondTable := false }
    let routed (fields : List Field) :=
      { s with router := { s.router with routes := s.router.routes.set i route }
               chans := if r.held then s.chans else s.chans.set i { s.chans[i] with atTarget := false }
               lens := if r.held = false ∧ i = focus then { s.lens with follow := follow } else s.lens
               link := s.link.answered 0x10#8 tag .ok fields }
    let request := Instr.setRoute tag (some (i.val, src.arg))
    match src with
    | .rate _ | .position _ | .hold => exec request s = .next (routed [])
    | .preset counts none => exec request s = .next (routed [i32 counts])
    | .preset counts (some value) =>
      ∀ j : Fin 3, i.val = 7 + j.val →
        (s.lens.tables[j] = [] →
          exec request s = .next { s with link := s.link.answered 0x10#8 tag .noTable [] }) ∧
        (s.lens.tables[j] ≠ [] → (inverseMap s.lens.tables[j] value).1 = counts →
          exec request s = .next (routed [i32 counts, flag (inverseMap s.lens.tables[j] value).2]))
    | .follow =>
      if i = focus ∧ s.lens.tables[1] ≠ [] then exec request s = .next (routed [])
      else exec request s = .next { s with link := s.link.answered 0x10#8 tag .noTable [] }

/-- 2.5, 3.1, 3.2, 3.3, 3.4 (R30, R43, R49, R51 to R62): a step in ACTIVE. Each source gives its target velocity,
bounded by the root of twice the acceleration times the distance to the soft limit, which sets LIMIT; the velocity
moves toward it by at most the step limit, within ±vmax; the position gains the velocity, within the soft limits,
which set LIMIT too. A position source snaps to its target, and in HOLD a PRESET or APPROACH of an arm or head channel
asks for no velocity. A stale input disarms, and an unarmed RATE or POSITION behaves as HOLD; it arms where the arming
test passes. TAKE goes straight for the interpolated position, by at most vmax, and a clamped step is OVERSPEED. The
rest counter counts the boundary steps of a channel that stands still, with the Player IDLE and an arm channel out of
PROTECTIVE, and at a nonzero park delay the channel goes to PARKING. Three clauses are the model's readings and choice
(log entry 18): a distance beyond a limit counts as 0, the at-target mark is cleared at the step that goes to PARKING,
and a PRESET or APPROACH that HOLD asks to stand still keeps the snap to its target. That the check byte is taken
unreflected is log entry 30. -/
def Obligations.ActiveStepMoves : Prop :=
  ∀ (s : State) (i : Fin 10) (bytes : Vector Byte 6), s.link.raised = [] → CauseLaw s →
    s.chans[i].cfg.present = true → s.chans[i].readPending = true → s.chans[i].cfg.Valid →
    crc8 (bytes.toList.take 5) = bytes[5] → s.chans[i].state = .active →
    let c := s.chans[i]
    let cfg := c.cfg
    let route := s.router.routes[i]
    let position := toSigned 4 (leNat (bytes.toList.take 4))
    let g : Nat := if i.val < 4 then s.gov.scale else 1024
    let stepLimit := if i.val < 4 ∧ s.gov.latch.isSet = true then cfg.stopDecel else cfg.accel
    let root (d : Int) : Int := Nat.sqrt (min (2 ^ 63 - 1) (2 * cfg.accel.toNat * d.toNat))
    let bound (tv : Int) : Int := root (if 0 < tv then cfg.softMax * 256 - c.p else c.p - cfg.softMin * 256)
    let bounded (tv : Int) : Int := if bound tv < |tv| then tv.sign * bound tv else tv
    let toward (tv : Int) : Int :=
      let w := if c.v < tv then min tv (c.v + stepLimit) else if tv < c.v then max tv (c.v - stepLimit) else c.v
      max (-cfg.vmax) (min cfg.vmax w)
    let clamps (w : Int) : Prop := cfg.softMax * 256 < c.p + w ∨ c.p + w < cfg.softMin * 256
    let place (w : Int) : Int × Int :=
      if cfg.softMax * 256 < c.p + w then (cfg.softMax * 256, 0)
      else if c.p + w < cfg.softMin * 256 then (cfg.softMin * 256, 0) else (c.p + w, w)
    let moves (next : Int × Int) (atTarget : Bool) (asks limit fast armed : Prop) : Prop :=
      (next.1 / 256 - position).natAbs ≤ cfg.followingLimit →
      ∃ t, exec (.encoderAnswer i bytes ⟨true, false⟩) s = .next t ∧ s.steps t i ⟨true, false⟩ ∧
        t.chans[i].p = next.1 ∧ t.chans[i].faults = c.faults ∧
        (asks ∨ next.2 ≠ 0 ∨ s.player.state ≠ .idle ∨ (i.val < 4 ∧ s.stop.state = .protective) →
          t.chans[i].rest = 0) ∧
        (¬asks → next.2 = 0 → s.player.state = .idle → 4 ≤ i.val ∨ s.stop.state ≠ .protective →
          t.chans[i].rest = if s.tb.tickIndex = 0 then c.rest + 1 else c.rest) ∧
        (if cfg.parkDelay ≠ 0 ∧ cfg.parkDelay ≤ t.chans[i].rest then
          t.chans[i].state = .parking ∧ t.chans[i].v = 0 ∧ t.chans[i].atTarget = false ∧
            t.chans[i].brakeTimer = ceilDiv (cfg.engageTime * s.tb.tickRate) 1000
        else t.chans[i].state = .active ∧ t.chans[i].v = next.2 ∧ t.chans[i].atTarget = atTarget) ∧
        (t.chans[i].limit = true ↔ limit) ∧
        (t.chans[i].overspeed = true ↔ c.overspeed = true ∨ fast) ∧
        (fast → s.player.state = .playing → ∀ r, s.player.pass = some r →
          t.player.pass = some { r with flags := { r.flags with overspeed := true } }) ∧
        t.router.routes[i] = { route with armed := t.router.routes[i].armed } ∧
        (t.router.routes[i].armed = true ↔ armed)
    let free (tv : Int) (armed : Prop) : Prop :=
      let w := toward (bounded tv)
      moves (place w) false (bounded tv ≠ 0) (bound tv < |tv| ∨ clamps w) False armed
    let aims (target : Int) (still : Prop) (armed : Prop) : Prop :=
      let place' := max cfg.softMin (min cfg.softMax target)
      let goal := place' * 256
      let e := goal - c.p
      ∀ tv : Int, (still → tv = 0) → (¬still → tv = e.sign * min ((cfg.vmax * g).tdiv 1024) (root |e|)) →
        let w := toward (bounded tv)
        let next := place w
        let limit := target ≠ place' ∨ bound tv < |tv| ∨ clamps w
        let asks := bounded tv ≠ 0
        if |goal - next.1| ≤ cfg.accel ∧ |next.2| ≤ cfg.accel then moves (goal, 0) true asks limit False armed
        else moves next false asks limit False armed
    let may := s.stop.state = .run ∨ s.stop.state = .protective ∨ (s.stop.state = .hold ∧ 7 ≤ i.val)
    (∀ k, route.active = .own (.rate k) ∨ route.active = .own (.position k) → s.router.controls[k].stale = true →
      free 0 False) ∧
    (∀ k, route.active = .own (.rate k) → s.router.controls[k].stale = false →
      let x := s.router.controls[k].value
      let tv := if |x| ≤ s.router.deadband then 0 else ((x * cfg.vmax).tdiv 32767 * g).tdiv 1024
      (route.armed = true → free tv True) ∧ (route.armed = false → free 0 (may ∧ |x| ≤ s.router.deadband))) ∧
    (∀ k, route.active = .own (.position k) → s.router.controls[k].stale = false →
      let mapped := cfg.softMin + (s.router.controls[k].value + 32767) * (cfg.softMax - cfg.softMin) / 65534
      let near := may ∧ |mapped - c.p / 256| ≤ cfg.pickupWindow
      (route.armed = true ∨ near → aims mapped False True) ∧ (route.armed = false → ¬near → free 0 False)) ∧
    (route.active = .own .hold → free 0 (route.armed = true)) ∧
    (∀ target, (∃ value, route.active = .own (.preset target value)) ∨ route.active = .approach target →
      aims target (s.stop.state = .hold ∧ i.val < 7) (route.armed = true)) ∧
    (route.active = .own .follow → aims s.lens.follow.demand False (route.armed = true)) ∧
    (route.active = .take →
      let wanted := s.player.positions[i] * 256 - c.p
      let w := max (-cfg.vmax) (min cfg.vmax wanted)
      moves (place w) false (wanted ≠ 0) (w ≠ wanted ∨ clamps w) (w ≠ wanted) (route.armed = true))

/-! ### Pose Unit -/

/-- 4.3 (R67, R68): the sine table is 32767 times the sine of each 256th of a quarter turn, rounded to nearest; the
quarter sine goes straight between its entries, truncated; and the other quadrants follow by symmetry. -/
def Obligations.SineFollowsItsTable : Prop :=
  let entry (i : Nat) : Nat := sineTable.getD i 0
  sineTable.length = 257 ∧ entry 0 = 0 ∧ entry 256 = 32767 ∧
  (∀ i : Nat, i ≤ 256 → |(entry i : ℝ) - 32767 * Real.sin (i * (Real.pi / 512))| ≤ 1 / 2) ∧
  (∀ i : Nat, i < 256 → entry i < entry (i + 1)) ∧
  (∀ i f : Nat, i < 256 → f < 64 →
    quarterSine (64 * i + f) = entry i + (entry (i + 1) - entry i) * f / 64) ∧ quarterSine 16384 = entry 256 ∧
  (∀ q q' : Nat, q ≤ q' → q' ≤ 16384 → quarterSine q ≤ quarterSine q') ∧
  ∀ angle : Int,
    let place := (angle % 65536).toNat
    let q := place % 16384
    sine angle = (match place / 16384 with
      | 0 => (quarterSine q : Int)
      | 1 => quarterSine (16384 - q)
      | 2 => -quarterSine q
      | _ => -quarterSine (16384 - q)) ∧
    cosine angle = sine (angle + 16384) ∧ -32767 ≤ sine angle ∧ sine angle ≤ 32767

/-- 4.1, 4.5 (R65, R71): an accepted SET GEOMETRY replaces the record and leaves the published pose; with unit values
that stand, the tick after it forms the pose under the new record and gives no false speed. An idle line takes a
message at once (log entry 9). -/
def Obligations.SetGeometryTakesEffect : Prop :=
  ∀ (s : State) (tag : Byte) (g : Geometry), Serving s → s.link.mode = .setup → s.store.save = none →
    s.store.locked = false → g.Valid →
    ∃ t, exec (.setGeometry tag (some ⟨g.x0, g.y0, g.h, g.l0, g.crewCeiling⟩)) s = .next t ∧
      t = { s with pose := t.pose, link := s.link.answered 0x18#8 tag .ok [] } ∧
      t.pose = { s.pose with geometry := g, geometrySet := true, prev := t.pose.prev } ∧
      (s.pose.prev = none → t.pose.prev = none) ∧
      ∀ q, s.pose.prev = some q →
        (∀ k : Fin 4, q.contributed[k] = (s.armContribution k).isSome ∧
          q.units[k] = (s.armContribution k).getD 0) →
        ∀ inp, ∃ u, exec (.tick inp) t = .next u ∧ u.pose.head = headPose g q.units ∧ u.pose.speed = 0

/-- 4.2, 4.4, 4.5 (R66, R70, R71): every tick forms the head pose from the unit values of the arm channels that
contribute, each product scaled and each coordinate brought within 32 bits, and the head speed from its difference to
the pose before: 0 at the first tick, and with a channel that starts or stops contributing taken at its present value.
-/
def Obligations.EveryTickFormsThePose : Prop :=
  ∀ (s : State) (inp : TickInputs), ∃ t, exec (.tick inp) s = .next t ∧
    let g := s.pose.geometry
    let u (k : Fin 4) : Int := (s.armContribution k).getD 0
    let rounded (length trig : Int) := roundHalfAway (length * trig) 32768
    let narrow (x : Int) := max (-2147483648) (min 2147483647 x)
    let lift := max (-16384) (min 16384 (u 2))
    let reach := max 0 (g.l0 + u 3)
    let r := rounded reach (cosine lift)
    let head : Point3 :=
      ⟨narrow (g.x0 + u 0 + rounded r (cosine (u 1 % 65536))), narrow (g.y0 + rounded r (sine (u 1 % 65536))),
        narrow (g.h + rounded reach (sine lift))⟩
    let speed (before : Point3) : Int :=
      min 2147483647 ((|head.x - before.x| + |head.y - before.y| + |head.z - before.z|) * s.tb.tickRate)
    t.pose.head = head ∧ t.pose.geometry = g ∧ t.pose.geometrySet = s.pose.geometrySet ∧
    t.pose.poseFrame = t.tb.frameNumber ∧ t.pose.poseTick = t.tb.tickIndex ∧
    (t.pose.liftClamp = true ↔ u 2 < -16384 ∨ 16384 < u 2) ∧ (t.pose.reachClamp = true ↔ g.l0 + u 3 < 0) ∧
    (t.pose.incomplete = true ↔ ∃ k, s.armContribution k = none) ∧
    (∃ q, t.pose.prev = some q ∧ q.head = head ∧
      ∀ k : Fin 4, q.units[k] = u k ∧ q.contributed[k] = (s.armContribution k).isSome) ∧
    (s.pose.prev = none → t.pose.speed = 0) ∧
    ∀ q, s.pose.prev = some q →
      ((∀ k : Fin 4, q.contributed[k] = (s.armContribution k).isSome) → t.pose.speed = speed q.head) ∧
      ((∃ k : Fin 4, q.contributed[k] ≠ (s.armContribution k).isSome) → ∃ units : Vector Int 4,
        (∀ k : Fin 4, units[k] = if q.contributed[k] = (s.armContribution k).isSome then q.units[k] else u k) ∧
        t.pose.speed = speed (headPose g units))

/-! ### Locators and crew -/

/-- 3.3, 5.2, 5.4, 5.5, 6.4, 6.5, 7.5, 10.2, 12.3 (R53, R76 to R78, R87, R91, R92, R105, R107, R122, R169, R201):
rounds and their slots. A frame boundary at which no round runs begins one, with the first configured locator's slot;
with none configured it ends at once. The pair is driven while a slot's poll goes out, the address with its CRC; the
poll's end opens the answer window; and the slot ends with a complete answer or the window's close. An answer with its
CRC, the polled address and at most four sightings in form is good, and its sightings are kept; a wrong CRC is a miss
and an error; another address, a sighting count above four or at odds with the length, a sighting out of form, and a
window that closes empty are each a miss. A discarded slot leaves every entry alone, however it ends, and an
incomplete answer changes nothing. CREW_OVERFLOW stands in the latch's cause set exactly as a round end publishes it,
and joining a clear latch it sets it, as LOCATOR_OFFLINE does at a slot's end: the record takes the first cause and
the frame number, the scale is 0, a SAFETY report is queued, and a stop state that changes by it disarms the arm and
head channels and clears the cue frame flag of a CUEING Player. Warm-up ends with a round once every locator that is
not optional has been online. That a poll and its answer go by the address which the slot began with, which entries a
running round polls, and that wrong check bytes in a discarded slot are not counted, are log entry 25; that
LOCATOR_OFFLINE comes before CREW_OVERFLOW where one event joins both is log entry 11. -/
def Obligations.PollSlotsEnd : Prop :=
  (∀ (s : State) (inp : TickInputs), s.tb.boundaryDue = true →
    ∃ t, exec (.frameBoundary inp) s = .next t ∧ t.bus.locators = s.bus.locators ∧
      match s.bus.round, (List.finRange 8).filter fun j => s.bus.locators[j].configured with
      | some r, _ => t.bus.round = some r ∧ (s.stop.test.state ≠ .running → t.crew = s.crew)
      | none, i :: rest =>
        let address := BitVec.ofNat 8 s.bus.locators[i].address
        t.bus.round = some ⟨t.tb.frameNumber, i, s.bus.locators[i].address, false, false, rest, []⟩ ∧
        t.bus.driven = true ∧ t.bus.poll = address :: leBytes 2 (crc16 [address]).toNat
      | none, [] => t.bus.round = none ∧ t.crew.roundFrame = t.tb.frameNumber ∧
        (t.crew.warmUp = true ↔ s.crew.warmUp = true ∧ s.link.mode = .starting) ∧
        t.crew.overflow = false ∧ t.gov.latch.crewOverflow = false ∧ (s.crew.overflow = true → t.reports .crew) ∧
        (s.gov.latch.crewOverflow = true → t.reports .safety)) ∧
  ∀ (s : State) (r : Round), Settled s → CauseLaw s → s.bus.round = some r →
    let before := s.bus.locators[r.current]
    (∃ t, exec .pollSent s = .next t ∧ t = { s with bus := { s.bus with round := some { r with answering := true } } } ∧
      t.bus.driven = false ∧ t.bus.poll = []) ∧
    (r.answering = true → r.discard = true →
      (∃ t, exec .locatorAnswerWindowClose s = .next t ∧ t.bus.locators = s.bus.locators) ∧
      ∀ bytes, ∃ t, exec (.locatorAnswer bytes) s = .next t ∧ t.bus.locators = s.bus.locators) ∧
    (r.answering = true → r.discard = false →
      (∃ t, exec .locatorAnswerWindowClose s = .next t ∧
        s.slotEnds t r false before.crcErrors before.degraded []) ∧
      (∀ bytes, answerComplete bytes = false → exec (.locatorAnswer bytes) s = .next s) ∧
      (∀ (length : Byte) (rest : List Byte), length.toNat + 2 ≤ rest.length →
        leNat ((rest.drop length.toNat).take 2) ≠ (crc16 (length :: rest.take length.toNat)).toNat →
        ∃ t, exec (.locatorAnswer (length :: rest)) s = .next t ∧
          s.slotEnds t r false (min 1023 (before.crcErrors + 1)) before.degraded []) ∧
      (∀ (length : Byte) (body : List Byte), body.length = length.toNat →
        (∀ id status count rest, body = id :: status :: count :: rest →
          length.toNat ≠ 3 + 11 * count.toNat ∨ 4 < count.toNat) →
        let covered := length :: body
        ∃ t, exec (.locatorAnswer (covered ++ leBytes 2 (crc16 covered).toNat)) s = .next t ∧
          s.slotEnds t r false before.crcErrors before.degraded []) ∧
      ∀ (id : Nat) (status : Byte) (seen : List (Nat × Int × Int × Nat)), id < 256 → seen.length ≤ 4 →
        (∀ g ∈ seen, g.1 < 65536 ∧ fits g.2.1 ∧ fits g.2.2.1 ∧ g.2.2.2 < 256) →
        ∃ t, exec (.locatorAnswer (locatorFrame id status seen)) s = .next t ∧
          (id = r.address → (∀ g ∈ seen, g.2.2.2 < 16) → status = 0#8 ∨ status = 1#8 →
            s.slotEnds t r true before.crcErrors (decide (status = 1#8)) (keptSightings r.current.val seen)) ∧
          (id ≠ r.address ∨ (∃ g ∈ seen, 16 ≤ g.2.2.2) →
            s.slotEnds t r false before.crcErrors before.degraded []))

/-- 5.4 (R82 to R88): the crew table after a round. Of a tag's sightings of enough quality one is best: by quality,
then by the higher locator, then by order. A seen entry moves to it and is TRACKED at its base radius; an unseen one
counts, and from stale after on grows, STALE and then LOST; that one below stale after is TRACKED at the radius it has
is log entry 19; a LOST one in an active EXIT zone leaves; TEST stays. New tags join behind the others in the order of
their sightings, each with its directory role and radius, while fewer than 24 entries stand; one more is an overflow.
The membership count rises by one for each entry that joins or leaves. -/
def Obligations.RoundEndUpdatesTheTable : Prop :=
  ∀ (c : CrewTracker) (gov : Governor) (frame : Nat) (all : List Sighting),
    (c.table.map CrewEntry.tagId).Nodup → (∀ e ∈ c.table, e.role = .test ↔ e.tagId = 65535) →
    c.table.length ≤ 24 →
    let after := c.roundEnd gov frame all
    let counts (g : Sighting) := g ∈ all ∧ c.params.minQuality ≤ g.quality ∧ g.tagId ≠ 65535
    let best (g : Sighting) := counts g ∧ ∀ h, counts h → h.tagId = g.tagId → h ≠ g →
      h.quality < g.quality ∨ h.quality = g.quality ∧
        (h.locator < g.locator ∨ g.locator = h.locator ∧ g.order < h.order)
    let exits (e : CrewEntry) := ∃ j : Fin 16, gov.zones[j].kind = .exit ∧
      gov.zones[j].active gov.guardState = true ∧ gov.zones[j].xmin ≤ e.x ∧ e.x ≤ gov.zones[j].xmax ∧
      gov.zones[j].ymin ≤ e.y ∧ e.y ≤ gov.zones[j].ymax
    (∀ e ∈ c.table, ∀ g, best g → g.tagId = e.tagId →
      { e with x := g.x, y := g.y, quality := g.quality, locator := some g.locator, lastSeen := frame, unseen := 0
               radius := e.baseRadius, state := .tracked } ∈ after.table) ∧
    (∀ e ∈ c.table, e.role ≠ .test → (∀ g, counts g → g.tagId ≠ e.tagId) →
      let n := min 65535 (e.unseen + 1)
      let grown := min c.params.lostCap (e.radius + c.params.growth)
      if n < c.params.staleAfter then { e with unseen := n, state := .tracked } ∈ after.table
      else if n < c.params.lostAfter then { e with unseen := n, radius := grown, state := .stale } ∈ after.table
      else (exits e → ∀ x ∈ after.table, x.tagId ≠ e.tagId) ∧
        (¬exits e → { e with unseen := n, radius := grown, state := .lost } ∈ after.table)) ∧
    (∀ e ∈ c.table, e.role = .test → e.state = .tracked → e ∈ after.table) ∧
    (∀ g, best g → (∀ e ∈ c.table, e.tagId ≠ g.tagId) → after.overflow = false →
      ∃ e ∈ after.table, e.tagId = g.tagId ∧ e.x = g.x ∧ e.y = g.y ∧ e.quality = g.quality ∧ e.state = .tracked ∧
        e.unseen = 0 ∧ e.firstSeen = frame ∧ e.lastSeen = frame ∧ e.radius = e.baseRadius ∧
        match c.directory.find? fun t => t.tagId == g.tagId with
        | some t => e.role = t.role ∧ e.baseRadius = t.baseRadius
        | none => e.role = .crew ∧ e.baseRadius = c.params.defaultRadius) ∧
    (let before (g h : Sighting) := g.locator < h.locator ∨ (g.locator = h.locator ∧ g.order < h.order)
      let ids := c.table.map CrewEntry.tagId
      let kept := (after.table.map CrewEntry.tagId).filter fun id => ids.contains id
      ∀ new : List Sighting, all.Pairwise before → new.Pairwise before → (∀ g, g ∈ new ↔ best g ∧ g.tagId ∉ ids) →
        let joining := (new.map Sighting.tagId).take (24 - kept.length)
        kept.Sublist ids ∧ after.table.map CrewEntry.tagId = kept ++ joining ∧
        (after.overflow = true ↔ 24 < kept.length + new.length) ∧
        after.membership = (c.membership + (ids.length - kept.length) + joining.length) % 65536) ∧
    after.table.length ≤ 24 ∧ (after.overflow = true → after.table.length = 24) ∧ after.roundFrame = frame ∧
    after.directory = c.directory ∧ after.params = c.params ∧ after.warmUp = c.warmUp

/-- 5.1, 5.4, 6.4, 6.5 (R75, R91, R105, R107): an accepted SET LOCATOR restarts its entry under the new fields,
discards the slot that runs for it, and leaves the cap and the LOCATOR_OFFLINE cause as the table then calls for. A
configured entry's address is its own. An idle line takes a message at once (log entry 9). -/
def Obligations.SetLocatorTakesEffect : Prop :=
  ∀ (s : State) (tag : Byte) (i : Fin 8) (c : LocatorConfig), Serving s → CauseLaw s → s.link.mode = .setup →
    s.store.save = none → s.store.locked = false → 1 ≤ c.address → c.address ≤ 254 → 400 ≤ c.window →
    c.window ≤ 1800 →
    let taken := ∃ j : Fin 8, j ≠ i ∧ s.bus.locators[j].configured = true ∧ s.bus.locators[j].address = c.address
    let yes (b : Bool) : Nat := if b then 1 else 0
    let request := Instr.setLocator tag (some ⟨i.val, yes c.configured, c.address, yes c.optional, c.window⟩)
    (c.configured = true → taken →
      exec request s = .next { s with link := s.link.answered 0x20#8 tag .occupied [] }) ∧
    (c.configured = false ∨ ¬taken → ∃ t, exec request s = .next t ∧
      t = { s with bus := t.bus, gov := t.gov, stop := t.stop, router := t.router, player := t.player
                   link := t.link } ∧
      t.bus.locators = s.bus.locators.set i
        ⟨c.configured, c.address, c.optional, c.window, if c.configured then .searching else .absent,
          Vector.replicate 8 false, 0, s.bus.locators[i].crcErrors, false, false⟩ ∧
      t.bus.round = (s.bus.round.map fun r => if r.current = i then { r with discard := true } else r) ∧
      (t.gov.latch.locatorOffline = true ↔ t.bus.anyOffline = true) ∧
      (s.gov.latch.isSet = true → t.gov.latch.isSet = true) ∧ t.gov.scale ≤ s.gov.scale ∧
      t.gov.scale ≤ s.gov.params.creep ∧ t.settings = { s.settings with locators := t.settings.locators } ∧
      t.player.state = s.player.state ∧ s.answers t 0x20#8 tag .ok [] ∧
      (t.bus.locators[i].link ≠ s.bus.locators[i].link → t.reports .crew))

/-- 5.3, 5.4 (R79 to R81, R89): the tag directory and the crew table under SET TAG in both forms, REMOVE TAG and CLEAR
CREW. A base radius that changes is a TRACKED entry's radius, and the least radius of another. The width of the number
of entries removed is log entry 7. An idle line takes a message at once (log entry 9). -/
def Obligations.TagRequestsTakeEffect : Prop :=
  ∀ (s : State) (tag : Byte) (id : Nat), Serving s → CrewLaw s → 1 ≤ id → id ≤ 65534 →
    let crew := s.crew
    let based (role : Role) (base : Int) (e : CrewEntry) : CrewEntry :=
      { e with role := role, baseRadius := base
               radius := if e.state = .tracked then base else max e.radius base }
    let known (id : Nat) := crew.directory.any fun t => t.tagId == id
    (s.store.save = none → s.store.locked = false →
      (∀ (code : Nat) (role : Role) (base : Int), (code, role) ∈ [(0, Role.crew), (1, .talent), (2, .equipment)] →
        100 ≤ base → base ≤ 3000 → known id = true ∨ crew.directory.length < 64 →
        ∃ t, exec (.setTag tag (some ⟨id, code, base⟩)) s = .next t ∧
          t = { s with crew := t.crew, link := s.link.answered 0x21#8 tag .ok [] } ∧
          t.crew = { crew with
            directory := t.crew.directory
            table := crew.table.map fun e => if e.tagId = id then based role base e else e } ∧
          (∀ x : TagEntry, x ∈ t.crew.directory ↔ x = ⟨id, role, base⟩ ∨ x ∈ crew.directory ∧ x.tagId ≠ id) ∧
          t.crew.directory.Pairwise (fun a b => a.tagId < b.tagId)) ∧
      (∀ p : TrackerParams, p.Valid → p.staleAfter ≤ p.lostAfter →
        exec (.setTagTrackerForm tag (some p.args)) s = .next
          { s with crew := { crew with
                     params := p
                     table := crew.table.map fun e =>
                       let e := if known e.tagId then e else based e.role p.defaultRadius e
                       { e with radius := min p.lostCap e.radius } }
                   link := s.link.answered 0x21#8 tag .ok [] }) ∧
      (known id = true → exec (.removeTag tag (some id)) s = .next
        { s with crew := { crew with
                   directory := crew.directory.filter fun t => t.tagId != id
                   table := crew.table.map fun e =>
                     if e.tagId = id then based .crew crew.params.defaultRadius e else e }
                 link := s.link.answered 0x22#8 tag .ok [] }) ∧
      (known id = false →
        exec (.removeTag tag (some id)) s = .next { s with link := s.link.answered 0x22#8 tag .notFound [] })) ∧
    (let lost := crew.table.filter fun e => e.state == .lost
      ∃ t, exec (.clearCrew tag (some 0)) s = .next t ∧ t = { s with crew := t.crew, link := t.link } ∧
        t.crew = { crew with table := crew.table.filter fun e => e.state != .lost
                             membership := (crew.membership + lost.length) % 65536 } ∧
        s.answers t 0x24#8 tag .ok [u8 lost.length] ∧ (lost ≠ [] → t.reports .crew)) ∧
    ((∀ e ∈ crew.table, e.tagId ≠ id) →
      exec (.clearCrew tag (some id)) s = .next { s with link := s.link.answered 0x24#8 tag .notFound [] }) ∧
    ∀ e ∈ crew.table, e.tagId = id →
      (e.state ≠ .lost →
        exec (.clearCrew tag (some id)) s = .next { s with link := s.link.answered 0x24#8 tag .wrongState [] }) ∧
      (e.state = .lost → ∃ t, exec (.clearCrew tag (some id)) s = .next t ∧
        t = { s with crew := t.crew, link := t.link } ∧
        t.crew = { crew with table := crew.table.filter fun x => x.tagId != id
                             membership := (crew.membership + 1) % 65536 } ∧
        s.answers t 0x24#8 tag .ok [] ∧ t.reports .crew)

/-! ### Separation Governor -/

/-- 6.4 (R100): the plan distance. -/
def Obligations.PlanDistanceIsBounded : Prop :=
  (∀ dx dy : Int,
    let M := max dx.natAbs dy.natAbs
    let N := min dx.natAbs dy.natAbs
    let d := planDistance dx dy
    d = (15 * M + 5 * N) / 16 ∧ (d * d : Int) ≤ dx * dx + dy * dy ∧
    (88 * 16) ^ 2 * (dx * dx + dy * dy) ≤ (100 * (15 * M + 5 * N : Int)) ^ 2 ∧
    (dy = 0 → d = 15 * dx.natAbs / 16) ∧ (dx.natAbs = dy.natAbs → d = 20 * dx.natAbs / 16)) ∧
  planDistance 3172 1672 = 3496 ∧ planDistance 0 0 = 0

/-- 3.3, 6.2, 6.4, 6.5, 7.2, 7.5, 7.7 (R53, R96, R98 to R105, R107 to R109, R122, R125): the Governor at a tick.
Guards are debounced; the braking distance is the least that covers v²÷2A; each crew entry and active KEEP_OUT zone
gives a margin. A margin used up sets the latch, which a running safety test records once, and drops the scale to 0;
out of EMERGENCY the stop state then changes to PROTECTIVE, which disarms the arm and head channels, or by the loop of
the same tick to EMERGENCY. A latch that stands keeps its record and the scale at 0. At a boundary auto-resume
releases a latch whose release was held over the whole frame just ended. Else the target is the least of the items'
scales, cut to creep by a cap, and the scale falls to it at once or rises by at most the scale rise. That the head
pose is the one of the same tick, that auto-resume comes before the computation, and that the loop comes after it, is
the order of log entry 11; some of the Governor's details are log entry 20. -/
def Obligations.GovernorActsOnMargins : Prop :=
  ∀ (s : State) (inp : TickInputs), s.link.raised = [] → s.gov.params.Valid → s.gov.scale ≤ 1024 →
    (s.gov.latch.isSet = false → s.gov.latch.governor = false) →
    (s.tb.boundaryDue = true → s.stop.test.state ≠ .running) →
    ∃ t, exec (.tick inp) s = .next t ∧
      let p := s.gov.params
      let l := s.gov.latch
      let released := s.tb.boundaryDue = true ∧ p.autoResume = true ∧ l.isSet = true ∧ l.releaseHeld = true
      let stands := l.isSet = true ∧ ¬released
      let head := t.pose.head
      let b : Int := t.gov.braking
      let plan (dx dy : Int) : Int := (15 * max |dx| |dy| + 5 * min |dx| |dy|) / 16
      let crew (e : CrewEntry) : Int :=
        max (plan (head.x - e.x) (head.y - e.y) - e.radius - p.clearance)
          (head.z - s.pose.geometry.crewCeiling - p.clearance) - b
      let zone (z : Zone) : Int :=
        max (plan (max (z.xmin - head.x) (max 0 (head.x - z.xmax))) (max (z.ymin - head.y) (max 0 (head.y - z.ymax)))
          - z.clearance) (head.z - z.ceiling - z.clearance) - b
      let isItem (m : Int) := (∃ e ∈ s.crew.table, m = crew e) ∨
        ∃ j : Fin 16, s.gov.zones[j].kind = .keepOut ∧ s.gov.zones[j].active t.gov.guardState = true ∧
          m = zone s.gov.zones[j]
      let scaleOf (m : Int) : Int :=
        if p.slowBand ≤ m then 1024 else if 0 < m then max p.creep (1024 * m / p.slowBand) else 0
      t.pose.speed ^ 2 ≤ 2 * p.decel * b ∧ (b = 0 ∨ 2 * p.decel * (b - 1) < t.pose.speed ^ 2) ∧
      (∀ g : Fin 8, t.gov.guardSample[g] = inp.guardsTripped[g] ∧ t.gov.guardState[g] =
        if inp.guardsTripped[g] = s.gov.guardSample[g] then inp.guardsTripped[g] else s.gov.guardState[g]) ∧
      t.gov.near = (s.crew.table.filter fun e => crew e < p.slowBand).length ∧
      t.gov.zones = s.gov.zones ∧ t.gov.params = p ∧
      (t.gov.releaseReady = true ↔ (∀ m, isItem m → p.slowBand / 4 ≤ m) ∧
        (released ∨ (l.crewOverflow = false ∧ l.locatorOffline = false))) ∧
      (t.gov.latch.releaseHeld = true ↔
        (l.releaseHeld = true ∨ s.tb.boundaryDue = true) ∧ t.gov.releaseReady = true) ∧
      (stands → t.gov.latch.isSet = true ∧ t.gov.scale = 0 ∧ t.gov.latch.setFrame = l.setFrame ∧
        t.gov.latch.firstCause = l.firstCause ∧ t.gov.latch.firstItem = l.firstItem ∧
        (t.gov.latch.governor = true ↔ l.governor = true ∨ ∃ m, isItem m ∧ m ≤ 0)) ∧
      (released → t.reports .safety) ∧
      (¬stands → (∃ m, isItem m ∧ m ≤ 0) → t.gov.latch.isSet = true ∧ t.gov.latch.governor = true ∧
        t.gov.latch.setFrame = some t.tb.frameNumber ∧ t.gov.latch.firstCause = some .governor ∧
        t.gov.scale = 0 ∧ t.stop.causes.latch = true ∧ t.reports .safety ∧
        (CauseLaw s → s.stop.state ≠ .emergency → (t.stop.state = .protective ∨ t.stop.state = .emergency) ∧
          ∀ c : Fin 10, c.val < 7 → t.router.routes[c].armed = false) ∧
        (s.stop.test.state = .running → s.stop.test.latchFrame = none → t.stop.test =
          { s.stop.test with latchFrame := some t.tb.frameNumber, latchCause := some .governor
                             latchItem := t.gov.latch.firstItem }) ∧
        (s.stop.test.latchFrame ≠ none → t.stop.test = s.stop.test)) ∧
      (¬stands → (∀ m, isItem m → 0 < m) → t.gov.latch.isSet = false ∧ t.gov.latch.governor = false ∧
        (released → t.gov.latch.crewOverflow = false ∧ t.gov.latch.locatorOffline = false ∧
          t.stop.causes.latch = false) ∧ t.stop.test = s.stop.test ∧
        ∃ target : Nat, (∀ m, isItem m → (target : Int) ≤ scaleOf m) ∧ target ≤ 1024 ∧
          (target = 1024 ∨ ∃ m, isItem m ∧ (target : Int) = scaleOf m) ∧
          t.gov.target = (if s.capStands then min target p.creep else target) ∧
          t.gov.scale = if t.gov.target < s.gov.scale then t.gov.target
            else min t.gov.target (s.gov.scale + p.scaleRise))

/-- 6.1, 6.3, 6.4, 7.3 (R95, R97, R105, R119): SET ZONE replaces a zone; SET GOVERNOR takes its parameters, a lowered
creep lowering a capped scale at once, and in the stop form the discrepancy time. The settings lock holds all three.
An idle line takes a message at once (log entry 9). -/
def Obligations.GovernorSettingsTakeEffect : Prop :=
  ∀ (s : State) (tag : Byte) (i : Fin 16) (z : Zone) (p : GovernorParams) (ms : Nat), Serving s →
    s.store.save = none → z.Valid → p.Valid → 20 ≤ ms → ms ≤ 500 →
    let zone := Instr.setZone tag (some (i.val, z.args))
    let governor := Instr.setGovernor tag (some p.args)
    let stop := Instr.setGovernorStopForm tag (some ms)
    let taken := { s.gov with params := p }
    let lowered := { taken with
      scale := p.creep, figures := { s.gov.figures with minScale := min s.gov.figures.minScale p.creep } }
    (s.link.mode = .operate →
      exec zone s = .next { s with link := s.link.answered 0x28#8 tag .wrongMode [] }) ∧
    (s.store.locked = true →
      (s.link.mode = .setup → exec zone s = .next { s with link := s.link.answered 0x28#8 tag .locked [] }) ∧
      exec governor s = .next { s with link := s.link.answered 0x29#8 tag .locked [] } ∧
      exec stop s = .next { s with link := s.link.answered 0x29#8 tag .locked [] }) ∧
    (s.store.locked = false →
      (s.link.mode = .setup → exec zone s = .next
        { s with gov := { s.gov with zones := s.gov.zones.set i z }, link := s.link.answered 0x28#8 tag .ok [] }) ∧
      exec governor s = .next
        { s with gov := if s.capStands = true ∧ p.creep < s.gov.scale then lowered else taken
                 link := s.link.answered 0x29#8 tag .ok [] } ∧
      exec stop s = .next
        { s with stop := { s.stop with discTime := ms }, link := s.link.answered 0x29#8 tag .ok [] })

/-- 3.3, 6.5, 7.5, 7.6 (R53, R109, R110, R122, R123): RESUME releases a latch whose margins are clear and which no
standing cause holds; RESET STOP takes ESTOP and ARM_FAULT out of EMERGENCY once the loop is closed, no discrepancy
stands and no arm channel is FAULTED. The stop state is then the one the causes left give, no channel moves by it,
none is armed, and a change to HOLD or PROTECTIVE disarms the arm and head channels. Otherwise each is refused with
what stands in its way, in the flag sets of log entry 28. An idle line takes a message at once (log entry 9). -/
def Obligations.StopsAreReleased : Prop :=
  ∀ (s : State) (tag : Byte), Serving s → CauseLaw s →
    let l := s.gov.latch
    let c := s.stop.causes
    let released (t : State) :=
      t = { s with gov := { s.gov with latch := t.gov.latch }, stop := t.stop, router := t.router, player := t.player
                   link := t.link } ∧
      t.stop = { s.stop with causes := t.stop.causes, state := t.stop.causes.stopState, prev := t.stop.prev
                             mark := t.stop.mark } ∧
      t.settings = s.settings ∧ t.player = { s.player with cueFlag := t.player.cueFlag } ∧ t.reports .safety ∧
      t.router = { s.router with routes := t.router.routes } ∧
      ∀ k : Fin 10, t.router.routes[k] = { s.router.routes[k] with armed := s.router.routes[k].armed &&
        (decide (7 ≤ k.val) || decide (t.stop.state = .run) || decide (t.stop.state = s.stop.state)) }
    (l.isSet = false → exec (.resume tag (some ())) s =
      .next { s with link := s.link.answered 0x2A#8 tag .wrongState [] }) ∧
    (l.isSet = true → s.gov.marginsReady = true → l.crewOverflow = false → l.locatorOffline = false →
      ∃ t, exec (.resume tag (some ())) s = .next t ∧ released t ∧
        t.gov.latch = { l with isSet := false, governor := false } ∧ t.stop.causes = { c with latch := false } ∧
        s.answers t 0x2A#8 tag .ok []) ∧
    (l.isSet = true → s.gov.marginsReady = false ∨ l.crewOverflow = true ∨ l.locatorOffline = true →
      let standing := flags [l.governor, l.crewOverflow, l.locatorOffline] :: s.gov.limitingFields
      exec (.resume tag (some ())) s =
        .next { s with link := s.link.answered 0x2A#8 tag .refusedSafety standing }) ∧
    (s.stop.state ≠ .emergency → exec (.resetStop tag (some ())) s =
      .next { s with link := s.link.answered 0x30#8 tag .wrongState [] }) ∧
    (s.stop.state = .emergency →
      let closed := !s.stop.a.isOpen && !s.stop.b.isOpen
      let clear := s.stop.armFaults.toList.all (!·)
      (closed = true → c.discrepancy = false → clear = true →
        ∃ t, exec (.resetStop tag (some ())) s = .next t ∧ released t ∧ t.gov = s.gov ∧
          t.stop.causes = { c with estopA := false, estopB := false, armFault := false } ∧
          t.stop.state ≠ .emergency ∧ s.answers t 0x30#8 tag .ok [u8 t.stop.state.ctorIdx]) ∧
      (closed = false ∨ c.discrepancy = true ∨ clear = false →
        let standing := [flags [!closed, c.discrepancy, !clear], c.field, flags s.stop.armFaults.toList]
        exec (.resetStop tag (some ())) s =
          .next { s with link := s.link.answered 0x30#8 tag .refusedSafety standing }))

/-! ### Stop Supervisor -/

/-- 3.1, 3.3, 7.1, 7.2, 7.3, 7.5, 8.4, 9.3, 9.6, 10.5, 10.6 (R46, R53, R114 to R118, R121, R138, R151, R154, R161,
R177, R180): the lines at a tick. An open sample opens its emergency-stop channel at once, and two closed ones in a
row close it; the first tick after a reset takes its samples as they are. A channel that opens joins its cause. The
discrepancy timer starts at 0 when the channels first differ, rises by 1 while they do and stops when they agree; past
the discrepancy time it is DISCREPANCY, at DISCREPANCY_TIME_EXCEEDED. A channel that opens and DISCREPANCY are each
EMERGENCY: a recording ends ESTOP_END, kept READY at two frames or more and discarded below, a running pass closes
STOPPED, the Player lets go of its channels, and a FOCUS that is then let go with FOLLOW configured holds until the
next tick (the order of a tick's works is log entry 11). A standing DISCREPANCY leaves at the tick that finds both
closed after one that found both open. ENABLE_IN, debounced, decides ENABLE_RELEASED, and the stop state is what the
causes give. A change of it to HOLD or PROTECTIVE disarms the arm and head channels, one to EMERGENCY every channel,
and none arms a channel. That DISCREPANCY_TIME_EXCEEDED stands for its tick is the model's choice (log entry 2), and
so is which of two TAKE reports of one EMERGENCY is the newer (log entry 13). -/
def Obligations.StopLinesAct : Prop :=
  ∀ (s : State) (inp : TickInputs), EngineLaw s → StopLaw s → s.link.raised = [] →
    ∃ t, exec (.tick inp) s = .next t ∧
      t.stop.enableHeld = (if inp.enableHeld = s.stop.enableSample then inp.enableHeld else s.stop.enableHeld) ∧
      t.stop.causes.enableReleased = !t.stop.enableHeld ∧ t.stop.state = t.stop.causes.stopState ∧
      (t.stop.causes ≠ s.stop.causes ∨ t.stop.a.isOpen ≠ s.stop.a.isOpen ∨ t.stop.b.isOpen ≠ s.stop.b.isOpen ∨
        t.stop.enableHeld ≠ s.stop.enableHeld → t.reports .safety) ∧
      (∀ c : Fin 10, t.router.routes[c].armed = true → s.router.routes[c].armed = true) ∧
      (t.stop.state ≠ s.stop.state → t.stop.state ≠ .run → ∀ c : Fin 10, c.val < 7 ∨ t.stop.state = .emergency →
        t.router.routes[c].armed = false) ∧
      (s.player.state = .idle → t.stop.state ≠ .emergency →
        ∀ c : Fin 10, 7 ≤ c.val → t.router.routes[c] = s.router.routes[c]) ∧
      (s.player.state = .idle → s.tb.boundaryDue = false → t.stop.state = s.stop.state →
        t.router.routes = s.router.routes) ∧
      t.stop.a = ⟨inp.estopAOpen,
        inp.estopAOpen || (s.stop.sampled && s.stop.a.isOpen && s.stop.a.sampleOpen)⟩ ∧
      t.stop.b = ⟨inp.estopBOpen,
        inp.estopBOpen || (s.stop.sampled && s.stop.b.isOpen && s.stop.b.sampleOpen)⟩ ∧
      (inp.estopAOpen = true → s.stop.a.isOpen = false → t.stop.causes.estopA = true ∧ s.broughtDown t) ∧
      (inp.estopBOpen = true → s.stop.b.isOpen = false → t.stop.causes.estopB = true ∧ s.broughtDown t) ∧
      (s.stop.causes.discrepancy = false →
        let n := match s.stop.discTimer with | some n => n + 1 | none => 0
        if t.stop.a.isOpen = t.stop.b.isOpen then
          t.stop.discTimer = none ∧ t.stop.causes.discrepancy = false ∧ t.stop.bothOpen = s.stop.bothOpen
        else if n ≤ ceilDiv (s.stop.discTime * s.tb.tickRate) 1000 then
          t.stop.discTimer = some n ∧ t.stop.causes.discrepancy = false ∧ t.stop.bothOpen = s.stop.bothOpen
        else t.stop.discTimer = none ∧ t.stop.causes.discrepancy = true ∧ t.stop.bothOpen = false) ∧
      (∀ n, s.stop.sampled = true → s.stop.causes.discrepancy = false → s.stop.discTimer = some n →
        ceilDiv (s.stop.discTime * s.tb.tickRate) 1000 ≤ n → inp.estopAOpen ≠ inp.estopBOpen →
        (inp.estopAOpen = false → s.stop.a.sampleOpen = false) →
        (inp.estopBOpen = false → s.stop.b.sampleOpen = false) →
        exec (.discrepancyTimeExceeded inp) s = .next t ∧ t.stop.causes.discrepancy = true ∧
        t.stop.discTimer = none ∧ t.stop.bothOpen = false ∧ s.broughtDown t) ∧
      (s.stop.sampled = true → s.stop.causes.discrepancy = true →
        let a := inp.estopAOpen || (s.stop.a.isOpen && s.stop.a.sampleOpen)
        let b := inp.estopBOpen || (s.stop.b.isOpen && s.stop.b.sampleOpen)
        t.stop.a.isOpen = a ∧ t.stop.b.isOpen = b ∧ t.stop.discTimer = s.stop.discTimer ∧
        if s.stop.bothOpen = true ∧ a = false ∧ b = false then
          t.stop.causes.discrepancy = false ∧ t.stop.bothOpen = false ∧ t.reports .safety
        else t.stop.causes.discrepancy = true ∧
          (t.stop.bothOpen = true ↔ s.stop.bothOpen = true ∨ (a = true ∧ b = true)))

/-- 5.4, 7.7 (R88, R124, R126): START SAFETY TEST places the TEST entry and starts the record; SAFETY_TEST_END is the
frame boundary at which the frames remaining reach 0: the entry goes, and the test has passed if a latch set during
it. That the TEST entry's quality is 0 (log entry 25), and that SAFETY_TEST_END stands for its boundary (log entry 2),
are the model's choices. -/
def Obligations.SafetyTestRuns : Prop :=
  ∀ (s : State), s.link.raised = [] →
    (∀ (tag : Byte) (a : SafetyTestArgs), Serving s → 2 ≤ a.duration → a.duration ≤ 250 →
      s.stop.test.state ≠ .running → s.player.state = .idle → s.recorder.state = .idle →
      s.gov.latch.isSet = false → s.crew.table.length < 24 →
      let r := s.crew.params.defaultRadius
      let n := s.tb.frameNumber
      let entry : CrewEntry := ⟨65535, .test, a.x, a.y, r, r, 0, none, n, n, 0, .tracked⟩
      let test : TestRecord := ⟨.running, a.x, a.y, a.duration, a.duration, n, none, none, none, none⟩
      ∃ t, exec (.startSafetyTest tag (some a)) s = .next t ∧
        t = { s with crew := t.crew, stop := { s.stop with test := test }, link := t.link } ∧
        t.crew = { s.crew with table := s.crew.table ++ [entry], membership := (s.crew.membership + 1) % 65536 } ∧
        s.answers t 0x31#8 tag .ok [u32 n] ∧ t.reports .crew ∧ t.reports .safety) ∧
    ∀ inp : TickInputs, s.tb.boundaryDue = true → s.stop.test.state = .running →
      (1 < s.stop.test.remaining → ∃ t, exec (.tick inp) s = .next t ∧ t.stop.test.state = .running ∧
        t.stop.test.remaining = s.stop.test.remaining - 1) ∧
      (s.stop.test.remaining ≤ 1 → ∃ t, exec (.safetyTestEnd inp) s = .next t ∧
        exec (.tick inp) s = .next t ∧
        t.stop.test.state = (if t.stop.test.latchFrame.isSome then .pass else .fail) ∧
        (s.stop.test.latchFrame.isSome → t.stop.test.latchFrame = s.stop.test.latchFrame) ∧
        t.stop.test.remaining = 0 ∧ t.stop.test.endFrame = some t.tb.frameNumber ∧
        (∀ e ∈ t.crew.table, e.role ≠ .test) ∧ t.reports .crew ∧ t.reports .safety)

/-! ### Lens Unit -/

/-- 8.1 (R131, R132): the forward and the inverse map of a lens table, whose counts rise and whose values rise or
fall. Within the table the result is the exact point of the segment rounded to nearest, halves up; beyond it, the end
point passed, which the inverse map alone reports. -/
def Obligations.LensMapsInterpolate : Prop :=
  ∀ (table : List LensPoint) (first last : LensPoint), table.head? = some first → table.getLast? = some last →
    2 ≤ table.length → table.Pairwise (fun a b => a.counts < b.counts) →
    table.Pairwise (fun a b => a.value < b.value) ∨ table.Pairwise (fun a b => b.value < a.value) →
    (∀ c, (c < first.counts → forwardMap table c = first.value) ∧ (last.counts < c → forwardMap table c = last.value) ∧
      ∀ (k : Nat) (a b : LensPoint), table[k]? = some a → table[k + 1]? = some b → a.counts ≤ c → c ≤ b.counts →
        let d := b.counts - a.counts
        let exact := (b.value - a.value) * (c - a.counts)
        2 * exact - d < 2 * d * (forwardMap table c - a.value) ∧
        2 * d * (forwardMap table c - a.value) ≤ 2 * exact + d) ∧
    (∀ p ∈ table, forwardMap table p.counts = p.value ∧ inverseMap table p.value = (p.counts, false)) ∧
    ∀ v, ((v < first.value ∧ first.value < last.value) ∨ (first.value < v ∧ last.value < first.value) →
        inverseMap table v = (first.counts, true)) ∧
      ((last.value < v ∧ first.value < last.value) ∨ (v < last.value ∧ last.value < first.value) →
        inverseMap table v = (last.counts, true)) ∧
      ∀ (k : Nat) (a b : LensPoint), table[k]? = some a → table[k + 1]? = some b →
        (a.value ≤ v ∧ v ≤ b.value) ∨ (b.value ≤ v ∧ v ≤ a.value) →
        let d := |b.value - a.value|
        let exact := (b.counts - a.counts) * |v - a.value|
        (inverseMap table v).2 = false ∧ a.counts ≤ (inverseMap table v).1 ∧ (inverseMap table v).1 ≤ b.counts ∧
        2 * exact - d < 2 * d * ((inverseMap table v).1 - a.counts) ∧
        2 * d * ((inverseMap table v).1 - a.counts) ≤ 2 * exact + d

/-- 8.1, 8.2, 8.4 (R133, R134, R137, R139, R140, R142): LOAD LENS TABLE replaces a table, but not while FOCUS follows
by it; SET FOCUS TARGET replaces the target record. Each tick publishes the lens values. While FOCUS follows a point,
or the place of a TRACKED tag, its demand is the inverse map of the distance to it, brought within the table; where an
image has loaded FOLLOW without a FOCUS table it is FOLLOWING too, and the figures are free (log entry 31); a STALE
tag holds the demand, and a LOST or unknown one, or no target, holds it with FOLLOW_LOST. The fields that a POINT or a
TAG leaves out take their defaults by log entry 15. That the head pose and the crew table are those of the same tick
is the order of log entry 11. An idle line takes a message at once (log entry 9). -/
def Obligations.LensRequestsTakeEffect : Prop :=
  ∀ s : State,
    (∀ (tag : Byte) (j : Fin 3) (points : List LensPoint), Serving s → lensTableOk j points = true →
      s.store.save = none → s.router.routes[lensChannel j].held = false →
      let request := Instr.loadLensTable tag (some ⟨7 + j.val, points⟩)
      if j = 1 ∧ s.router.routes[8].active = .own .follow then
        exec request s = .next { s with link := s.link.answered 0x38#8 tag .busy [] }
      else exec request s = .next { s with lens := { s.lens with tables := s.lens.tables.set j points }
                                           link := s.link.answered 0x38#8 tag .ok [] }) ∧
    (∀ (tag : Byte) (offset : Int), Serving s → s.store.save = none → -20000 ≤ offset → offset ≤ 20000 →
      let taken (t : FocusTarget) :=
        { s with lens := { s.lens with target := t, follow := { s.lens.follow with distance := none } }
                 link := s.link.answered 0x39#8 tag .ok [] }
      exec (.setFocusTarget tag (some (.noTarget offset))) s = .next (taken ⟨.none, 0, 0, 0, 0, 1600, offset⟩) ∧
      (∀ x y z, exec (.setFocusTarget tag (some (.point x y z offset))) s =
        .next (taken ⟨.point, x, y, z, 0, 1600, offset⟩)) ∧
      ∀ id eye, 1 ≤ id → id ≤ 65534 → 0 ≤ eye → eye ≤ 4000 →
        exec (.setFocusTarget tag (some (.tag id eye offset))) s =
          .next (taken ⟨.tag, 0, 0, 0, id, eye, offset⟩)) ∧
    ∀ inp : TickInputs, ∃ t, exec (.tick inp) s = .next t ∧
      (∀ j : Fin 3, t.lens.values[j] =
        if s.chans[lensChannel j].cfg.present = true ∧ s.lens.tables[j] ≠ [] then
          some (forwardMap s.lens.tables[j] s.chans[lensChannel j].encoder)
        else none) ∧
      (s.player.state = .idle ∨ focus ∉ s.heldSet → s.lens.follow.state ≠ .inactive →
        let target := s.lens.target
        let follow := s.lens.follow
        let lost := t.lens.follow = { follow with state := .lost, followLost := true }
        let follows (x y z : Int) : Prop :=
          (s.lens.tables[1] = [] → t.lens.follow.state = .following ∧ t.lens.follow.followLost = false) ∧
          ∀ first last, s.lens.tables[1].head? = some first → s.lens.tables[1].getLast? = some last →
            let h := t.pose.head
            let raw : Int := Nat.sqrt ((x - h.x) ^ 2 + (y - h.y) ^ 2 + (z - h.z) ^ 2).toNat + target.offset
            let distance := max (min first.value last.value) (min (max first.value last.value) raw)
            t.lens.follow =
              ⟨.following, (inverseMap s.lens.tables[1] distance).1, some distance, false, distance != raw⟩
        (target.kind = .none → lost) ∧
        (target.kind = .point → follows target.x target.y target.z) ∧
        (target.kind = .tag → (∀ e ∈ s.crew.table, e.tagId = target.tagId → e.role ≠ .test) →
          match s.crew.table.find? fun e => e.tagId == target.tagId with
          | none => lost
          | some e =>
            match e.state with
            | .tracked => follows e.x e.y target.eyeHeight
            | .stale => t.lens.follow = { follow with state := .holding, followLost := false }
            | .lost => lost))

/-! ### Take Memory and Recorder -/

/-- 9.1, 9.3, 10.3, 10.7, 12.2 (R146, R147, R150 to R154, R172, R181): RECORD arms the Recorder with the first free
block. An ARMED one starts at the next boundary, or AT_ROLL at the one at which the pass begins. Each frame boundary
writes one record, header and demands, in the next place, taking a block when the last is full; with no block left the
recording ends TRUNCATED, and RECORD_FRAME_LIMIT is the boundary that writes the 65,535th record. Every other byte of
take memory stands. STOP RECORD keeps a take of two frames or more. A channel's recorded position is its drive demand
most recently sent, whatever its source (R152); for a channel under TAKE R181 says besides that it is the take's
position for the frame, which is one tick on, and there the model follows R152 (log entry 16). The width of the block
number in the reply is log entry 7; that the fill goes to 0 and the start kind stands when a recording ends is the
model's choice (log entry 25); and so are that RECORD_FRAME_LIMIT stands for its boundary (log entry 2), that the TAKE
report of a recording that starts or ends at a boundary is newer than the Player's (log entry 13), and that the roll
is judged by the stop state of its own tick, the Player before the Recorder (the order of log entry 11). -/
def Obligations.RecordingKeepsFrames : Prop :=
  ∀ s : State,
    (∀ (tag : Byte) (i : Fin 32) (name : List Byte) (mask : Nat) (atRoll : Bool) (block : Nat) (free : List Nat),
      Serving s → s.link.mode = .operate → s.recorder.state = .idle → s.stop.test.state ≠ .running →
      s.stop.state ≠ .emergency → s.mem.slots[i].state = .empty → nameOk name = true → 0 < mask → mask < 1024 →
      (∀ c : Fin 10, mask.testBit c.val → s.chans[c].cfg.present) → (atRoll → s.player.state = .cued) →
      s.mem.free = block :: free →
      let set := (List.finRange 10).filter fun c => mask.testBit c.val
      let slot := { Slot.empty with
        state := .recording, name := name, set := set, rateCode := s.tb.rateCode, tpf := s.tb.tpf, chain := [block] }
      ∃ t, exec (.record tag (some ⟨i.val + 1, name, mask, if atRoll then 1 else 0⟩)) s = .next t ∧
        t = { s with mem := { s.mem with free := free, slots := s.mem.slots.set i slot }
                     recorder := ⟨.armed, some i, if atRoll then .atRoll else .now, 0⟩, link := t.link } ∧
        s.answers t 0x40#8 tag .ok [u16 block] ∧ t.reports (.take .recordArmed (some i) none false none)) ∧
    (∀ (tag : Byte) (i : Fin 32), Serving s → s.recorder.slot = some i → s.recorder.state ≠ .idle →
      let sl := s.mem.slots[i]
      let keeps := s.recorder.state = .recording ∧ 2 ≤ sl.frames
      ∃ t, exec (.stopRecord tag (some ())) s = .next t ∧ t = { s with mem := t.mem, recorder := t.recorder
                                                                       link := t.link } ∧
        t.recorder = { s.recorder with state := .idle, slot := none, fill := 0 } ∧
        t.mem = (if keeps then
          { s.mem with slots := s.mem.slots.set i { sl with state := .ready, play := true, erase := true } }
          else { s.mem with free := s.mem.free ++ sl.chain, slots := s.mem.slots.set i Slot.empty }) ∧
        s.answers t 0x41#8 tag .ok [u16 (if keeps then sl.frames else 0)] ∧
        t.reports (if s.recorder.state = .recording then
          .take .recordEnded (some i) (some .stopRecord) (decide keeps) none
          else .take .recordCancelled (some i) none false none)) ∧
    (∀ (inp : TickInputs) (i j : Fin 32), EngineLaw s → BlockLaw s → CellsLaw s → s.loopStaysClosed inp →
      s.link.raised = [] → s.tb.boundaryDue = true → s.recorder.state = .armed → s.recorder.startKind = .atRoll →
      s.recorder.slot = some i → s.mem.slots[i].frames = 0 → s.player.slot = some j → s.player.state = .cued →
      (∀ c ∈ s.mem.slots[j].set, s.chans[c].state ≠ .disabled ∧ s.chans[c].state ≠ .faulted) →
      ∃ t, exec (.frameBoundary inp) s = .next t ∧
        if s.player.rollPending = true ∧ t.stop.state = .run then
          t.player.state = .playing ∧ t.recorder.state = .recording ∧ t.recorder.slot = some i ∧
          t.mem.slots[i].state = .recording ∧ t.mem.slots[i].frames = 1 ∧ t.mem.slots[i].created = t.tb.frameNumber
        else t.player.state = .cued ∧ t.recorder = s.recorder ∧ t.mem = s.mem) ∧
    ∀ (inp : TickInputs) (i : Fin 32), EngineLaw s → BlockLaw s → CellsLaw s → s.loopStaysClosed inp →
      s.link.raised = [] → s.tb.boundaryDue = true → s.recorder.slot = some i →
      let starts := s.recorder.state = .armed ∧ s.recorder.startKind = .now ∧ s.mem.slots[i].frames = 0
      s.recorder.state = .recording ∨ starts →
      let sl := s.mem.slots[i]
      let k := sl.frames
      let size := 4 + 4 * sl.set.length
      let full := 0 < k ∧ k % (1024 / size) = 0
      ∃ t, exec (.frameBoundary inp) s = .next t ∧
        (full → s.mem.free = [] → t.recorder.state = .idle ∧ t.recorder.slot = none ∧ t.mem.cells = s.mem.cells ∧
          t.mem.slots[i] = { sl with state := .ready, play := true, erase := true
                                     flags := { sl.flags with truncated := true } } ∧
          t.reports (.take .recordEnded (some i) (some .noBlock) true none)) ∧
        (¬(full ∧ s.mem.free = []) →
          let f := s.gov.figures
          let sl' := t.mem.slots[i]
          let record := [BitVec.ofNat 8 (flagBits [f.governed, s.stop.mark, s.tb.gathered.holdover,
              s.tb.gathered.slip, sl.set.any fun c => s.chans[c].overspeed]), BitVec.ofNat 8 f.near]
            ++ leBytes 2 f.minScale ++ sl.set.flatMap fun c => intBytes 4 s.chans[c].demand
          sl'.frames = k + 1 ∧ sl'.set = sl.set ∧ sl'.name = sl.name ∧
          sl'.chain = (if full then sl.chain ++ s.mem.free.take 1 else sl.chain) ∧
          t.mem.free = (if full then s.mem.free.drop 1 else s.mem.free) ∧
          t.mem.stream sl' (k * size) size = record ∧
          (∀ offset, offset < k * size → t.mem.stream sl' offset 1 = s.mem.stream sl offset 1) ∧
          (∀ a, (¬∃ j, j < size ∧ a = sl'.address (k * size + j)) →
            readCell t.mem.cells a = readCell s.mem.cells a) ∧
          sl'.flags = { sl.flags with slip := sl.flags.slip || s.tb.gathered.slip
                                      holdover := sl.flags.holdover || s.tb.gathered.holdover } ∧
          sl'.created = (if s.recorder.state = .armed then t.tb.frameNumber else sl.created) ∧
          (starts → t.reports (.take .recordStarted (some i) none false none)) ∧
          (k < 65534 → sl'.state = .recording ∧ t.recorder.state = .recording) ∧
          (k = 65534 → exec (.recordFrameLimit inp) s = .next t ∧ sl'.state = .ready ∧ t.recorder.state = .idle ∧
            t.recorder.slot = none ∧ t.reports (.take .recordEnded (some i) (some .frameLimit) true none)))

/-- 9.1, 9.2, 9.4, 9.5 (R146, R148, R149, R155 to R157, R159, R160): CREATE TAKE claims a take's blocks from the head
of the free list; WRITE TAKE DATA stores its bytes in the next place of the data stream and nowhere else; CLOSE TAKE
makes a whole upload READY; ERASE TAKE gives the blocks back in chain order; SET TAKE ACCESS sets the access flags.
Each but the writing is reported. The width of the number of blocks given back is log entry 7, and that no bytes count
as written outside LOADING, and that bits 2 to 7 of the access byte are ignored, is log entry 15. An idle line takes a
message at once (log entry 9). -/
def Obligations.TakesAreLoadedAndErased : Prop :=
  ∀ (s : State) (tag : Byte) (i : Fin 32), Serving s → EngineLaw s → BlockLaw s → CellsLaw s →
    let sl := s.mem.slots[i]
    let memory (free : List Nat) (new : Slot) := { s.mem with free := free, slots := s.mem.slots.set i new }
    let event (e : TakeEvent) := Raise.take e (some i) none false none
    let held := (s.recorder.state ≠ .idle ∧ s.recorder.slot = some i) ∨
      (s.player.state ≠ .idle ∧ s.player.slot = some i)
    (∀ (name : List Byte) (mask code tpf frames : Nat), sl.state = .empty → nameOk name = true → 0 < mask →
      mask < 1024 → code ≤ 7 → tickRateOk code tpf = true → 2 ≤ frames → frames ≤ 65535 →
      let set := (List.finRange 10).filter fun c => mask.testBit c.val
      let size := 4 + 4 * set.length
      let blocks := ceilDiv frames (1024 / size)
      let request := Instr.createTake tag (some ⟨i.val + 1, name, mask, code, tpf, frames⟩)
      let new := { Slot.empty with
        state := .loading, name := name, set := set, rateCode := code, tpf := tpf, frames := frames, play := true
        erase := true, created := s.tb.frameNumber, chain := s.mem.free.take blocks }
      (s.mem.free.length < blocks →
        exec request s = .next { s with link := s.link.answered 0x42#8 tag .noSpace [] }) ∧
      (blocks ≤ s.mem.free.length → ∃ t, exec request s = .next t ∧
        t = { s with mem := memory (s.mem.free.drop blocks) new, link := t.link } ∧
        s.answers t 0x42#8 tag .ok [u32 (frames * size)] ∧ t.reports (event .takeCreated))) ∧
    (∀ bytes : List Byte, sl.state = .loading → bytes ≠ [] → bytes.length ≤ 192 →
      sl.written + bytes.length ≤ sl.streamLength →
      let request := Instr.writeTakeData tag (some ⟨i.val + 1, sl.written, bytes.length, bytes⟩)
      let after := sl.written + bytes.length
      let stored (a : Nat) := ∃ j, j < bytes.length ∧ a = sl.address (sl.written + j)
      (s.mem.writeStream sl sl.written bytes).completedOk sl sl.written after = true →
      ∃ t, exec request s = .next t ∧
        t = { s with mem := t.mem, link := s.link.answered 0x43#8 tag .ok [u32 after] } ∧
        t.mem = { memory s.mem.free { sl with written := after } with cells := t.mem.cells } ∧
        t.mem.stream sl sl.written bytes.length = bytes ∧
        ∀ a, ¬stored a → readCell t.mem.cells a = readCell s.mem.cells a) ∧
    (sl.state = .loading → (sl.written < sl.streamLength → exec (.closeTake tag (some (i.val + 1))) s =
        .next { s with link := s.link.answered 0x44#8 tag .incomplete [u32 sl.written] }) ∧
      (sl.written = sl.streamLength → ∃ t, exec (.closeTake tag (some (i.val + 1))) s = .next t ∧
        t = { s with mem := memory s.mem.free t.mem.slots[i], link := t.link } ∧
        t.mem.slots[i] = { sl with state := .ready, written := 0, flags := t.mem.slots[i].flags } ∧
        (let header (k : Nat) := readCell s.mem.cells (sl.address (k * sl.recordSize))
          let f := t.mem.slots[i].flags
          f.truncated = false ∧ f.estopEnd = false ∧
          (f.slip = true ↔ ∃ k, k < sl.frames ∧ (header k).getLsbD 3 = true) ∧
          (f.holdover = true ↔ ∃ k, k < sl.frames ∧ (header k).getLsbD 2 = true)) ∧
        s.answers t 0x44#8 tag .ok [] ∧ t.reports (event .takeLoaded))) ∧
    (sl.state ≠ .empty → ¬held → (sl.erase = false → exec (.eraseTake tag (some (i.val + 1))) s =
        .next { s with link := s.link.answered 0x46#8 tag .isProtected [] }) ∧
      (sl.erase = true → ∃ t, exec (.eraseTake tag (some (i.val + 1))) s = .next t ∧
        t = { s with mem := memory (s.mem.free ++ sl.chain) Slot.empty, link := t.link } ∧
        s.answers t 0x46#8 tag .ok [u16 sl.chain.length] ∧ t.reports (event .takeErased))) ∧
    (sl.state ≠ .empty → ¬held → ∀ access : Nat,
      ∃ t, exec (.setTakeAccess tag (some ⟨i.val + 1, access⟩)) s = .next t ∧
        t = { s with mem := memory s.mem.free { sl with play := access.testBit 0, erase := access.testBit 1 }
                     link := t.link } ∧
        s.answers t 0x47#8 tag .ok [] ∧ t.reports (event .accessChanged))

/-! ### Player -/

/-- 2.5, 3.1, 10.2, 10.3 (R32, R46, R166, R167, R171): CUE, with replay parameters or their defaults, takes a READY
take whose channels are ready for it: each held channel approaches its first position, unarmed, and every parked
channel leaves its park, to DISABLED with a FAULT report where it lies outside its limits. ROLL waits for the next
boundary, in RUN with the frame LOCKED or FREE_RUN. The at-target marks that end are log entry 18, and that a CUE
clears the take clock is log entry 25. That an abandoned brake timer is 0, and that the stop phase stands outside
STOPPING, are the model's choices (log entry 7). That of several channels that CUE finds outside their limits the
FAULT report names the one with the highest index is the model's choice (log entry 13). An idle line takes a message
at once (log entry 9). -/
def Obligations.CueAndRollAreTaken : Prop :=
  ∀ (s : State) (tag : Byte), Serving s →
    (∀ (i : Fin 32) (replay : Option ReplayArgs),
      let a := replay.getD ⟨3000, 16, 8⟩
      s.link.mode = .operate → s.player.state = .idle →
      s.stop.test.state ≠ .running → s.stop.state ≠ .emergency → s.mem.slots[i].state = .ready →
      s.mem.slots[i].play = true → s.mem.slots[i].rateCode = s.tb.rateCode → s.mem.slots[i].tpf = s.tb.tpf →
      (∀ c ∈ s.mem.slots[i].set, s.chans[c].cfg.present = true ∧
        s.chans[c].state ∈ [ChState.active, .parking, .parked, .releasing]) →
      250 ≤ a.cueTimeout → a.cueTimeout ≤ 15000 → 1 ≤ a.paceFall → a.paceFall ≤ 1024 → 1 ≤ a.paceRise →
      a.paceRise ≤ 1024 →
      let sl := s.mem.slots[i]
      let first (c : Fin 10) := toSigned 4 (leNat (s.mem.stream sl (4 + 4 * sl.set.idxOf c) 4))
      let leaves (c : Fin 10) := s.chans[c].state = .parking ∨ s.chans[c].state = .parked
      ∃ t, exec (.cue tag (some ⟨i.val + 1, replay⟩)) s = .next t ∧
        t = { s with player := t.player, router := t.router, chans := t.chans, lens := t.lens, link := t.link } ∧
        t.player = ⟨.cueing, some i, a.cueTimeout, a.paceFall, a.paceRise, 0, true, false, 0, 0, 0, 0, none,
          s.player.positions⟩ ∧
        (∀ c ∈ sl.set, t.router.routes[c] = ⟨s.router.routes[c].configured, .approach (first c), false⟩) ∧
        (∀ c : Fin 10, c ∉ sl.set → t.router.routes[c] =
          { s.router.routes[c] with armed := s.router.routes[c].armed && !decide (leaves c ∧
              s.chans[c].withinLimits = false) }) ∧
        (∀ c : Fin 10,
          (leaves c → s.chans[c].withinLimits = true → t.chans[c] = { s.chans[c] with
            state := .releasing, p := 256 * s.chans[c].encoder, v := 0, atTarget := false
            brakeTimer := ceilDiv (s.chans[c].cfg.releaseTime * s.tb.tickRate) 1000 }) ∧
          (leaves c → s.chans[c].withinLimits = false → t.chans[c] = { s.chans[c] with
            state := .disabled, brakeTimer := 0, atTarget := false }) ∧
          (¬leaves c → t.chans[c] =
            { s.chans[c] with atTarget := s.chans[c].atTarget && !decide (c ∈ sl.set) })) ∧
        (focus ∈ sl.set → t.lens.follow.state = .inactive) ∧ t.settings = s.settings ∧
        s.answers t 0x50#8 tag .ok [] ∧ t.reports (.take .cueTaken (some i) none false none) ∧
        let refused (c : Fin 10) := leaves c ∧ s.chans[c].withinLimits = false
        ∀ c : Fin 10, refused c → (∀ d : Fin 10, c < d → ¬refused d) → t.reports (.fault c)) ∧
    (s.player.state = .cued → s.player.rollPending = false →
      exec (.roll tag (some ())) s =
        if s.stop.state ≠ .run then .next { s with link := s.link.answered 0x51#8 tag .refusedSafety [] }
        else if s.tb.pubLock = .locked ∨ s.tb.pubLock = .freeRun then
          .next { s with player := { s.player with rollPending := true }, link := s.link.answered 0x51#8 tag .ok [] }
        else .next { s with link := s.link.answered 0x51#8 tag .notLocked [] })

/-- 10.2, 10.3, 10.4, 10.5 (R168, R169, R172 to R177): the approach, the roll and the take clock. The tick that finds
every held channel at target takes the Player to CUED. Till then the cue timer stands inside a frame, and rises by 1
at a boundary whose frame left the cue frame flag set; the boundary sets the flag afresh, and a tick with the scale at
0 or out of RUN clears it. At the boundary after ROLL the pass begins in RUN, on the governor scale, or the roll is
withdrawn. Each tick the rate moves toward its target, 0 while stopped, by at most the pace limits; the clock gains
the rate and the lag the rest of 1024; the held channels' positions are interpolated; and the pass gathers its flags,
at a boundary those of the marks of the frame just ended too. At the end of the take the pass closes with its result
and the Player holds. That the Player works after the Governor and the Stop Supervisor of the same tick, and before
the Recorder, is the order of log entry 11; which of two reports of one kind in one tick is the newer is the model's
choice (log entry 13). -/
def Obligations.TakeClockAdvances : Prop :=
  ∀ (s : State) (inp : TickInputs) (i : Fin 32), EngineLaw s → s.loopStaysClosed inp → s.link.raised = [] →
    s.player.slot = some i →
    let sl := s.mem.slots[i]
    let fit := ∀ c ∈ sl.set, s.chans[c].state ≠ .disabled ∧ s.chans[c].state ≠ .faulted
    (s.player.state = .cueing → s.tb.boundaryDue = false → fit → ∃ t, exec (.tick inp) s = .next t ∧
      t.player.slot = some i ∧ t.router.routes.map Route.active = s.router.routes.map Route.active ∧ t.mem = s.mem ∧
      t.player.cueTimer = s.player.cueTimer ∧
      if ∀ c ∈ sl.set, s.chans[c].atTarget = true then
        t.player.state = .cued ∧ t.reports (.take .cueReady (some i) none false none)
      else t.player.state = .cueing ∧
        (t.player.cueFlag = true ↔ s.player.cueFlag = true ∧ t.gov.scale ≠ 0 ∧ t.stop.state = .run)) ∧
    (s.player.state = .cueing → s.tb.boundaryDue = true → fit →
      let n := if s.player.cueFlag = true then s.player.cueTimer + 1 else s.player.cueTimer
      n < s.player.cueTimeout → ∃ t, exec (.frameBoundary inp) s = .next t ∧ t.player.slot = some i ∧
        t.router.routes.map Route.active = s.router.routes.map Route.active ∧
        if ∀ c ∈ sl.set, s.chans[c].atTarget = true then
          t.player.state = .cued ∧ t.player.cueTimer = (if inp.cueTimerFirst then n else s.player.cueTimer) ∧
          (s.recorder.state = .idle → t.reports (.take .cueReady (some i) none false none))
        else t.player.state = .cueing ∧ t.player.cueTimer = n ∧
          (t.player.cueFlag = true ↔ t.gov.scale ≠ 0 ∧ t.stop.state = .run)) ∧
    (s.player.state = .cued → s.player.rollPending = true → s.tb.boundaryDue = true →
      fit → ∃ t, exec (.frameBoundary inp) s = .next t ∧ t.player.rollPending = false ∧
        (t.stop.state ≠ .run → t.player.state = .cued ∧ t.player.pass = none) ∧
        (t.stop.state = .run → t.player.state = .playing ∧ t.player.clock = 0 ∧ t.player.lag = 0 ∧
          t.player.ticks = 0 ∧ t.player.rate = t.gov.scale ∧
          (∀ c ∈ sl.set, t.router.routes[c].active = .take ∧
            t.player.positions[c] = s.mem.position sl 0 (sl.set.idxOf c)) ∧
          ∃ r, t.player.pass = some r ∧ r.slot = i ∧ r.rollFrame = t.tb.frameNumber ∧ r.result = none)) ∧
    (s.player.state = .playing → s.player.ticks < 4294967295 → ∀ old, s.player.pass = some old →
      ∃ t, exec (.tick inp) s = .next t ∧
        let q := sl.tpf * 1024
        let target := if t.stop.state = .run then t.gov.scale else 0
        let rate := if target < s.player.rate then max target (s.player.rate - s.player.paceFall)
          else min target (s.player.rate + s.player.paceRise)
        let last := (sl.frames - 1) * q
        let gain := min rate (last - s.player.clock)
        let p := t.player
        let ended (mark : Bool) := s.tb.boundaryDue && mark
        let flags : PassFlags :=
          { old.flags with
            governed := old.flags.governed || decide (t.gov.scale < 1024)
            paused := old.flags.paused || decide (rate = 0)
            slip := old.flags.slip || ended s.tb.gathered.slip
            holdover := old.flags.holdover || decide (t.tb.pubLock = .holdover)
            unlocked := old.flags.unlocked || ended s.tb.gathered.unlocked }
        p.rate = rate ∧ p.clock = s.player.clock + gain ∧ p.lag = s.player.lag + (1024 - gain) ∧
        p.ticks = s.player.ticks + 1 ∧ p.slot = some i ∧
        (∀ c ∈ sl.set,
          let a := s.mem.position sl (p.clock / q) (sl.set.idxOf c)
          let b := s.mem.position sl (p.clock / q + 1) (sl.set.idxOf c)
          p.positions[c] = if p.clock / q + 1 < sl.frames then a + ((b - a) * (p.clock % q : Nat)).tdiv q else a) ∧
        (p.clock < last → p.state = .playing ∧ p.pass = some { old with flags := flags }) ∧
        (last ≤ p.clock → p.state = .held ∧ p.pass = none ∧ ∃ r, t.mem.passes.getLast? = some r ∧
          t.mem.slots[i].lastPass = some r ∧ r.slot = i ∧ r.ticks = p.ticks ∧ r.lag = p.lag ∧ r.flags = flags ∧
          r.endFrame = t.tb.frameNumber ∧
          r.result = some (if 0 < p.lag then .paceLost
            else if flags.slip ∨ flags.holdover ∨ flags.unlocked ∨ flags.overspeed ∨ flags.channelFault
              then .degraded
            else .frameTrue) ∧
          (s.tb.boundaryDue = false ∨ s.recorder.state = .idle →
            t.reports (.take .takeHeld (some i) none false none)) ∧ t.reports (.pass (some r))))

/-- 3.1, 10.2, 10.5, 10.6 (R46, R169, R170, R177 to R179): the Player's returns to IDLE. At a tick that finds a held
channel DISABLED or FAULTED, whose lowest it names, at CUE_TIMEOUT, the boundary at which the cue timer reaches the
timeout, at ABORT PLAY and at RELEASE it lets go of its channels; ABORT PLAY closes a running pass ABORTED and replies
with its record. That CUE_TIMEOUT stands for its boundary is the model's choice (log entry 2), and the at-target marks
that end are log entry 18. Where its leaving of CUED cancels an AT_ROLL Recorder too, that the Player's TAKE report is
the newer is the model's choice (log entry 13). -/
def Obligations.PlayerLetsGo : Prop :=
  ∀ (s : State) (i : Fin 32), EngineLaw s → s.link.raised = [] → s.player.slot = some i →
    let event (e : TakeEvent) := Raise.take e (some i) none false none
    let frame (t : State) := t = { s with
      player := t.player, router := t.router, chans := t.chans, lens := t.lens, mem := t.mem
      recorder := t.recorder, link := t.link }
    (∀ tag : Byte, Serving s → s.player.state ≠ .idle →
      ∃ t, exec (.abortPlay tag (some ())) s = .next t ∧ frame t ∧ s.letsGo t ∧
        t.settings = s.settings ∧ t.reports (event .playerReleased) ∧
        (s.player.state ≠ .cued → t.recorder = s.recorder) ∧
        (s.player.state ≠ .playing → s.answers t 0x52#8 tag .ok [] ∧
          (s.player.state ≠ .cued → t.mem = s.mem)) ∧
        (s.player.state = .playing → ∃ r, s.answers t 0x52#8 tag .ok r.fields ∧ r.result = some .aborted ∧
          r.slot = i ∧ r.ticks = s.player.ticks ∧ r.lag = s.player.lag ∧ r.endFrame = s.tb.frameNumber ∧
          t.mem.passes.getLast? = some r ∧ t.mem.slots[i].lastPass = some r ∧
          t.mem.passCount = (s.mem.passCount + 1) % 65536 ∧ t.mem.cells = s.mem.cells ∧
          t.reports (.pass (some r)))) ∧
    (∀ tag : Byte, Serving s → s.player.state = .held →
      ∃ t, exec (.release tag (some ())) s = .next t ∧ frame t ∧ s.letsGo t ∧ t.mem = s.mem ∧
        t.recorder = s.recorder ∧ t.settings = s.settings ∧ s.answers t 0x53#8 tag .ok [] ∧
        t.reports (event .playerReleased)) ∧
    (∀ (inp : TickInputs) (c : Fin 10), s.loopStaysClosed inp → s.tb.boundaryDue = false →
      s.player.state = .cueing ∨ s.player.state = .cued →
      let failed (c : Fin 10) :=
        c ∈ s.mem.slots[i].set ∧ (s.chans[c].state = .disabled ∨ s.chans[c].state = .faulted)
      failed c → (∀ d : Fin 10, d < c → ¬failed d) →
      ∃ t, exec (.tick inp) s = .next t ∧ t.player.state = .idle ∧ t.player.slot = none ∧
        (∀ d ∈ s.mem.slots[i].set, t.router.routes[d] =
          ⟨s.router.routes[d].configured, .own s.router.routes[d].configured, false⟩) ∧
        (∀ d : Fin 10, t.chans[d].state = s.chans[d].state ∧ t.chans[d].p = s.chans[d].p ∧
          t.chans[d].v = s.chans[d].v ∧ t.chans[d].faults = s.chans[d].faults) ∧
        t.reports (.take .cueFailed (some i) none false (some c))) ∧
    ∀ inp : TickInputs, s.loopStaysClosed inp → s.tb.boundaryDue = true → s.recorder.state = .idle →
      s.player.state = .cueing → s.player.cueFlag = true → s.player.cueTimeout ≤ s.player.cueTimer + 1 →
      (∀ c ∈ s.mem.slots[i].set, s.chans[c].state ≠ .disabled ∧ s.chans[c].state ≠ .faulted) →
      ∃ t, exec (.cueTimeout inp) s = .next t ∧ t.player.state = .idle ∧ t.player.slot = none ∧
        (∀ c ∈ s.mem.slots[i].set, t.router.routes[c] =
          ⟨s.router.routes[c].configured, .own s.router.routes[c].configured, false⟩) ∧
        (∀ c : Fin 10, t.chans[c].state = s.chans[c].state ∧ t.chans[c].p = s.chans[c].p ∧
          t.chans[c].v = s.chans[c].v) ∧
        t.mem = s.mem ∧ t.reports (event .cueTimeout)

/-! ### Readings -/

/-- 1.7, 2.2, 3.1, 4.6, 5.4, 6.6, 7.8, 8.2, 9.4, 9.6, 9.7 (R15, R21, R47, R72, R90, R112, R128, R135, R158, R161,
R162): a reading answers with what its owner holds and changes nothing. Widths, layouts and numbers too wide that the
message formats leave open are those of log entries 7, 28 and 29, the tick and the rounding of the period difference
that of log entry 4, the numbering of the parts and the chain index those of log entry 15, and a SLOTS reply with
fewer than four slots is log entry 26. An idle line takes a message at once (log entry 9). -/
def Obligations.ReadingsChangeNothing : Prop :=
  ∀ (s : State) (tag : Byte), Serving s →
    let answer (kind : Byte) (fields : List Field) := { s with link := s.link.answered kind tag .ok fields }
    let tb := s.tb
    exec (.getTimebase tag (some ())) s = .next (answer 0x02#8
      [u8 tb.source.ctorIdx, u8 tb.rateCode, u8 tb.tpf, u16 tb.holdoverLimit, u16 tb.tickRate, u8 tb.pubLock.ctorIdx,
        u32 tb.frameNumber, u8 tb.tickIndex, flags tb.history.toList, i32 tb.periodDifference, u16 tb.holdoverCount,
        flag tb.phaseEstablished, flag tb.lockLost, u16 tb.slipCount]) ∧
    (∀ i : Fin 10, exec (.getChannel tag (some i.val)) s =
      .next (answer 0x09#8 (s.chans[i].fields (decide (i.val < 4))))) ∧
    exec (.getRoutes tag (some ())) s = .next (answer 0x11#8 s.routeFields) ∧
    exec (.getPose tag (some ())) s = .next (answer 0x19#8 s.pose.fields) ∧
    (∀ part start chain, part ≤ 3 → start ≤ (if part = 0 then 23 else if part = 2 then 63 else 0) →
      exec (.getCrew tag (some ⟨part, start, chain⟩)) s = .next (answer 0x23#8 (s.crewPart part start))) ∧
    (∀ part start chain, part ≤ 3 → start ≤ (if part = 0 then 15 else 0) →
      exec (.getSafety tag (some ⟨part, start, chain⟩)) s = .next (answer 0x32#8 (s.safetyPart part start))) ∧
    (∀ j : Fin 3, exec (.loadLensTableReadForm tag (some (7 + j.val))) s = .next (answer 0x38#8 (s.lens.fields j))) ∧
    (∀ (i : Fin 32) (offset count : Nat), s.mem.slots[i].state = .ready → 1 ≤ count → count ≤ 192 →
      offset + count ≤ s.mem.slots[i].streamLength →
      let byte (j : Nat) := readCell s.mem.cells (s.mem.slots[i].address (offset + j))
      exec (.readTakeData tag (some ⟨i.val + 1, offset, count⟩)) s =
        .next (answer 0x45#8 [.text ((List.range count).map byte)])) ∧
    (∀ a : PartArgs, a.part ≤ 3 → directoryStartOk a.part a.start = true →
      exec (.getDirectory tag (some a)) s = .next (answer 0x48#8 (s.directoryPart a))) ∧
    (∀ start, start ≤ 15 → exec (.getPasses tag (some start)) s = .next (answer 0x49#8
      ([u8 s.mem.passes.length, u16 s.mem.passCount] ++
        ((s.mem.passes.drop start).take 8).flatMap PassRecord.fields)))
end

