-- ==== Sys2Proof/Laws/Blocks.lean ====
section
/-! SUPPORT. Lemmas for the operations of single blocks: the published unit value, the position a record takes,
the part name, a FOLLOWING tick, the tag directory of an image, the poll on the locator bus, the
EEPROM's bytes over a save and a reset, and the size of a pass record in a message. -/

namespace Sys2Proof.Machine

/-! ### The unit value (R18, R21, R66) -/

@[simp] theorem Channel.publishUnit_cfg (arm : Bool) (c : Channel) : (c.publishUnit arm).cfg = c.cfg := by
  cases arm <;> rfl

@[simp] theorem Channel.publishUnit_fresh (arm : Bool) (c : Channel) :
    (c.publishUnit arm).unitFresh = (arm || c.unitFresh) := by
  cases arm <;> rfl

/-- A configuration leaves the unit value most recently published. -/
@[simp] theorem Channel.configure_unitValue (cfg : ChannelConfig) (c : Channel) :
    (c.configure cfg).unitValue = c.unitValue := by
  unfold Channel.configure
  split <;> rfl

/-! ### The position a record takes (R152, R181) -/

@[simp] theorem State.recordedPosition_eq (i : Fin 10) (s : State) : s.recordedPosition i = s.chans[i].demand := rfl

/-! ### The part name (R190, R198) -/

/-- A part name has at most the 16 characters of R198. -/
theorem partNameBytes_length_le (n : PartName) : (partNameBytes n).length ≤ 16 := by
  simp [partNameBytes]

/-! ### Focus follow (R139, R142) -/

/-- A tick that finds its target leaves the record FOLLOWING, with or without a FOCUS table. -/
theorem followToward_state (x : FocusFigures) (table : List LensPoint) (d : Int) :
    (followToward x table d).state = .following ∧ (followToward x table d).followLost = false := by
  unfold followToward
  split <;> exact ⟨rfl, rfl⟩

/-! ### The tag directory (R79, R193) -/

/-- What stands in a list after an entry is put in it. -/
theorem mem_insertTag {t x : TagEntry} {d : List TagEntry} (h : x ∈ insertTag t d) : x = t ∨ x ∈ d := by
  induction d with
  | nil => simpa [insertTag] using h
  | cons u us ih =>
    unfold insertTag at h
    split at h
    · simpa using h
    · split at h
      · rcases List.mem_cons.mp h with rfl | h
        · exact .inl rfl
        · exact .inr (.tail _ h)
      · rcases List.mem_cons.mp h with rfl | h
        · exact .inr (.head _)
        · exact (ih h).imp id (.tail _)

/-- An entry put in an ascending list leaves it ascending. -/
theorem insertTag_ascending (t : TagEntry) (d : List TagEntry) (h : d.Pairwise (fun a b => a.tagId < b.tagId)) :
    (insertTag t d).Pairwise (fun a b => a.tagId < b.tagId) := by
  induction d with
  | nil => simp [insertTag]
  | cons u us ih =>
    obtain ⟨first, rest⟩ := List.pairwise_cons.mp h
    unfold insertTag
    split
    · next lt =>
      refine List.pairwise_cons.mpr ⟨fun x hx => ?_, h⟩
      rcases List.mem_cons.mp hx with rfl | hx
      · exact lt
      · exact lt.trans (first x hx)
    · split
      · next eq => exact List.pairwise_cons.mpr ⟨fun x hx => eq ▸ first x hx, rest⟩
      · refine List.pairwise_cons.mpr ⟨fun x hx => ?_, ih rest⟩
        rcases mem_insertTag hx with rfl | hx
        · omega
        · exact first x hx

theorem insertTag_length_le (t : TagEntry) (d : List TagEntry) : (insertTag t d).length ≤ d.length + 1 := by
  induction d with
  | nil => simp [insertTag]
  | cons u us ih =>
    unfold insertTag
    repeat' split
    all_goals simp <;> omega

/-- An entry above every other is put behind them. -/
theorem insertTag_of_above (t : TagEntry) (d : List TagEntry) (h : ∀ u ∈ d, u.tagId < t.tagId) :
    insertTag t d = d ++ [t] := by
  induction d with
  | nil => rfl
  | cons u us ih =>
    have := h u (.head _)
    unfold insertTag
    rw [if_neg (by omega), if_neg (by omega), ih fun x hx => h x (.tail _ hx), List.cons_append]

/-- What the entries of an image make of a directory: their own entries, no more of them, ascending. -/
theorem directoryOf_spec (entries : List TagEntry) :
    (∀ x ∈ directoryOf entries, x ∈ entries) ∧ (directoryOf entries).length ≤ entries.length ∧
      (directoryOf entries).Pairwise (fun a b => a.tagId < b.tagId) := by
  suffices general : ∀ d : List TagEntry, d.Pairwise (fun a b => a.tagId < b.tagId) →
      let r := entries.foldl (fun d t => insertTag t d) d
      (∀ x ∈ r, x ∈ d ∨ x ∈ entries) ∧ r.length ≤ d.length + entries.length ∧
        r.Pairwise (fun a b => a.tagId < b.tagId) by
    simpa [directoryOf] using general [] .nil
  induction entries with
  | nil => exact fun d h => ⟨fun x hx => .inl hx, by simp, h⟩
  | cons t ts ih =>
    intro d h
    obtain ⟨from_, short, asc⟩ := ih (insertTag t d) (insertTag_ascending t d h)
    refine ⟨fun x hx => ?_, ?_, asc⟩
    · rcases from_ x hx with hx | hx
      · rcases mem_insertTag hx with rfl | hx
        · exact .inr (.head _)
        · exact .inl hx
      · exact .inr (.tail _ hx)
    · have := insertTag_length_le t d
      simp only [List.foldl_cons, List.length_cons] at *
      omega

/-- Entries that ascend are the directory themselves. -/
theorem directoryOf_of_ascending (entries : List TagEntry) (h : entries.Pairwise (fun a b => a.tagId < b.tagId)) :
    directoryOf entries = entries := by
  suffices general : ∀ d : List TagEntry, (∀ u ∈ d, ∀ t ∈ entries, u.tagId < t.tagId) →
      entries.foldl (fun d t => insertTag t d) d = d ++ entries from general [] (by simp)
  induction entries with
  | nil => simp
  | cons t ts ih =>
    intro d below
    obtain ⟨first, rest⟩ := List.pairwise_cons.mp h
    rw [List.foldl_cons, insertTag_of_above t d fun u hu => below u hu t (.head _), ih rest]
    · simp
    · intro u hu x hx
      rcases List.mem_append.mp hu with hu | hu
      · exact below u hu x (.tail _ hx)
      · rw [List.mem_singleton.mp hu]
        exact first x hx

/-! ### The locator bus (R76) -/

/-- The pair is driven exactly while a poll goes out, and then carries the address polled with its CRC. -/
theorem LocatorBus.poll_of_driven (b : LocatorBus) :
    b.poll = if b.driven then (b.round.map fun r => pollFrame r.address).getD [] else [] := by
  unfold LocatorBus.poll LocatorBus.driven
  cases b.round with
  | none => rfl
  | some r => cases h : r.answering <;> simp [h]

@[simp] theorem LocatorBus.pollSent_driven (b : LocatorBus) : b.pollSent.driven = false := by
  unfold LocatorBus.pollSent LocatorBus.driven
  cases b.round <;> rfl

@[simp] theorem LocatorBus.pollSent_locators (b : LocatorBus) : b.pollSent.locators = b.locators := rfl

/-! ### The EEPROM (R193, R194) -/

@[simp] theorem Store.beginSave_eeprom (image : List Byte) (frame : Nat) (st : Store) :
    (st.beginSave image frame).eeprom = some (inFlight image) := rfl
@[simp] theorem Store.beginSave_save (image : List Byte) (frame : Nat) (st : Store) :
    (st.beginSave image frame).save = some ⟨image, frame⟩ := rfl
@[simp] theorem Store.beginSave_valid (image : List Byte) (frame : Nat) (st : Store) :
    (st.beginSave image frame).valid = st.valid := rfl
@[simp] theorem Store.beginSave_locked (image : List Byte) (frame : Nat) (st : Store) :
    (st.beginSave image frame).locked = st.locked := rfl
@[simp] theorem Store.endSave_save (ok : Bool) (v : Save) (st : Store) : (st.endSave ok v).save = none := rfl
@[simp] theorem Store.endSave_valid (ok : Bool) (v : Save) (st : Store) : (st.endSave ok v).valid = ok := rfl
@[simp] theorem Store.endSave_locked (ok : Bool) (v : Save) (st : Store) : (st.endSave ok v).locked = st.locked := rfl
@[simp] theorem Store.restart_eeprom (locked : Bool) (st : Store) : (st.restart locked).eeprom = st.eeprom := rfl
@[simp] theorem Store.restart_save (locked : Bool) (st : Store) : (st.restart locked).save = none := rfl

/-- A save that ended OK is what the next load reads, whatever the EEPROM would bring. -/
theorem Store.readImage_endSave_ok (image : List Byte) (v : Save) (st : Store) :
    (st.endSave true v).readImage image = v.image := rfl

/-- From its acceptance a save leaves an image that a load reads with the format code 0000h. -/
theorem Store.readImage_beginSave (image other : List Byte) (frame : Nat) (st : Store) :
    (st.beginSave image frame).readImage other = inFlight image := rfl

/-! ### Messages (R149, R162, R177) -/

/-- A pass record takes the same bytes in a message whatever it holds, and an absent last pass keeps that place. -/
theorem PassRecord.size_fields (r : PassRecord) : (r.fields.map Field.size).sum = passRecordSize := by
  obtain ⟨_, _, _, _, _, _, _, _, _, result⟩ := r
  cases result <;> rfl

/-! ### CLEAR FAULTS (R39) -/

/-- A channel is cleared exactly when it is named, FAULTED, and every condition of its fault set is gone. -/
theorem Channel.clearOutcome_eq_cleared (named : Bool) (c : Channel) :
    c.clearOutcome named = .cleared ↔ named = true ∧ c.state = .faulted ∧ c.faultsGone = true := by
  unfold Channel.clearOutcome
  cases named <;> cases c.faultsGone <;> cases c.state <;> decide

end Sys2Proof.Machine
end

