-- ==== Sys2Proof/Laws/State.lean ====
section
/-! SUPPORT. For each update of `State` that Machine/Ops.lean names as a plain record update: one lemma for each field
it leaves, and one for the field it writes. All are true by definition. -/

namespace Sys2Proof.Machine

/-! ### Reports and replies -/

@[simp] theorem State.raise_tb (r : Raise) (s : State) : (s.raise r).tb = s.tb := rfl
@[simp] theorem State.raise_chans (r : Raise) (s : State) : (s.raise r).chans = s.chans := rfl
@[simp] theorem State.raise_router (r : Raise) (s : State) : (s.raise r).router = s.router := rfl
@[simp] theorem State.raise_pose (r : Raise) (s : State) : (s.raise r).pose = s.pose := rfl
@[simp] theorem State.raise_bus (r : Raise) (s : State) : (s.raise r).bus = s.bus := rfl
@[simp] theorem State.raise_crew (r : Raise) (s : State) : (s.raise r).crew = s.crew := rfl
@[simp] theorem State.raise_gov (r : Raise) (s : State) : (s.raise r).gov = s.gov := rfl
@[simp] theorem State.raise_stop (r : Raise) (s : State) : (s.raise r).stop = s.stop := rfl
@[simp] theorem State.raise_lens (r : Raise) (s : State) : (s.raise r).lens = s.lens := rfl
@[simp] theorem State.raise_mem (r : Raise) (s : State) : (s.raise r).mem = s.mem := rfl
@[simp] theorem State.raise_recorder (r : Raise) (s : State) : (s.raise r).recorder = s.recorder := rfl
@[simp] theorem State.raise_player (r : Raise) (s : State) : (s.raise r).player = s.player := rfl
@[simp] theorem State.raise_store (r : Raise) (s : State) : (s.raise r).store = s.store := rfl
@[simp] theorem State.raise_pending (r : Raise) (s : State) : (s.raise r).pending = s.pending := rfl
@[simp] theorem State.raise_link (r : Raise) (s : State) :
    (s.raise r).link = { s.link with raised := s.link.raised ++ [r] } := rfl
@[simp] theorem State.flushReports_tb (s : State) : (s.flushReports).tb = s.tb := rfl
@[simp] theorem State.flushReports_chans (s : State) : (s.flushReports).chans = s.chans := rfl
@[simp] theorem State.flushReports_router (s : State) : (s.flushReports).router = s.router := rfl
@[simp] theorem State.flushReports_pose (s : State) : (s.flushReports).pose = s.pose := rfl
@[simp] theorem State.flushReports_bus (s : State) : (s.flushReports).bus = s.bus := rfl
@[simp] theorem State.flushReports_crew (s : State) : (s.flushReports).crew = s.crew := rfl
@[simp] theorem State.flushReports_gov (s : State) : (s.flushReports).gov = s.gov := rfl
@[simp] theorem State.flushReports_stop (s : State) : (s.flushReports).stop = s.stop := rfl
@[simp] theorem State.flushReports_lens (s : State) : (s.flushReports).lens = s.lens := rfl
@[simp] theorem State.flushReports_mem (s : State) : (s.flushReports).mem = s.mem := rfl
@[simp] theorem State.flushReports_recorder (s : State) : (s.flushReports).recorder = s.recorder := rfl
@[simp] theorem State.flushReports_player (s : State) : (s.flushReports).player = s.player := rfl
@[simp] theorem State.flushReports_store (s : State) : (s.flushReports).store = s.store := rfl
@[simp] theorem State.flushReports_pending (s : State) : (s.flushReports).pending = s.pending := rfl
@[simp] theorem State.settle_tb (s : State) : (s.settle).tb = s.tb := rfl
@[simp] theorem State.settle_chans (s : State) : (s.settle).chans = s.chans := rfl
@[simp] theorem State.settle_router (s : State) : (s.settle).router = s.router := rfl
@[simp] theorem State.settle_pose (s : State) : (s.settle).pose = s.pose := rfl
@[simp] theorem State.settle_bus (s : State) : (s.settle).bus = s.bus := rfl
@[simp] theorem State.settle_crew (s : State) : (s.settle).crew = s.crew := rfl
@[simp] theorem State.settle_gov (s : State) : (s.settle).gov = s.gov := rfl
@[simp] theorem State.settle_stop (s : State) : (s.settle).stop = s.stop := rfl
@[simp] theorem State.settle_lens (s : State) : (s.settle).lens = s.lens := rfl
@[simp] theorem State.settle_mem (s : State) : (s.settle).mem = s.mem := rfl
@[simp] theorem State.settle_recorder (s : State) : (s.settle).recorder = s.recorder := rfl
@[simp] theorem State.settle_player (s : State) : (s.settle).player = s.player := rfl
@[simp] theorem State.settle_store (s : State) : (s.settle).store = s.store := rfl
@[simp] theorem State.settle_pending (s : State) : (s.settle).pending = s.pending := rfl
@[simp] theorem State.queueReply_tb (kind tag : Byte) (r : Result) (fs : List Field) (s : State) :
    (s.queueReply kind tag r fs).tb = s.tb := rfl
@[simp] theorem State.queueReply_chans (kind tag : Byte) (r : Result) (fs : List Field) (s : State) :
    (s.queueReply kind tag r fs).chans = s.chans := rfl
@[simp] theorem State.queueReply_router (kind tag : Byte) (r : Result) (fs : List Field) (s : State) :
    (s.queueReply kind tag r fs).router = s.router := rfl
@[simp] theorem State.queueReply_pose (kind tag : Byte) (r : Result) (fs : List Field) (s : State) :
    (s.queueReply kind tag r fs).pose = s.pose := rfl
@[simp] theorem State.queueReply_bus (kind tag : Byte) (r : Result) (fs : List Field) (s : State) :
    (s.queueReply kind tag r fs).bus = s.bus := rfl
@[simp] theorem State.queueReply_crew (kind tag : Byte) (r : Result) (fs : List Field) (s : State) :
    (s.queueReply kind tag r fs).crew = s.crew := rfl
@[simp] theorem State.queueReply_gov (kind tag : Byte) (r : Result) (fs : List Field) (s : State) :
    (s.queueReply kind tag r fs).gov = s.gov := rfl
@[simp] theorem State.queueReply_stop (kind tag : Byte) (r : Result) (fs : List Field) (s : State) :
    (s.queueReply kind tag r fs).stop = s.stop := rfl
@[simp] theorem State.queueReply_lens (kind tag : Byte) (r : Result) (fs : List Field) (s : State) :
    (s.queueReply kind tag r fs).lens = s.lens := rfl
@[simp] theorem State.queueReply_mem (kind tag : Byte) (r : Result) (fs : List Field) (s : State) :
    (s.queueReply kind tag r fs).mem = s.mem := rfl
@[simp] theorem State.queueReply_recorder (kind tag : Byte) (r : Result) (fs : List Field) (s : State) :
    (s.queueReply kind tag r fs).recorder = s.recorder := rfl
@[simp] theorem State.queueReply_player (kind tag : Byte) (r : Result) (fs : List Field) (s : State) :
    (s.queueReply kind tag r fs).player = s.player := rfl
@[simp] theorem State.queueReply_store (kind tag : Byte) (r : Result) (fs : List Field) (s : State) :
    (s.queueReply kind tag r fs).store = s.store := rfl
@[simp] theorem State.queueReply_pending (kind tag : Byte) (r : Result) (fs : List Field) (s : State) :
    (s.queueReply kind tag r fs).pending = s.pending := rfl
@[simp] theorem State.queueReply_link (kind tag : Byte) (r : Result) (fs : List Field) (s : State) :
    (s.queueReply kind tag r fs).link = { s.link with out := s.link.out ++ [.reply kind tag r fs] } := rfl
@[simp] theorem State.refuse_state (s : State) (r : Result) (fs : List Field) : (s.refuse r fs).state = s := rfl
@[simp] theorem State.refuse_result (s : State) (r : Result) (fs : List Field) : (s.refuse r fs).result = r := rfl
@[simp] theorem State.refuse_fields (s : State) (r : Result) (fs : List Field) : (s.refuse r fs).fields = fs := rfl
@[simp] theorem State.accepted_state (s : State) (fs : List Field) : (s.accepted fs).state = s := rfl
@[simp] theorem State.accepted_result (s : State) (fs : List Field) : (s.accepted fs).result = .ok := rfl
@[simp] theorem State.accepted_fields (s : State) (fs : List Field) : (s.accepted fs).fields = fs := rfl

/-! ### Channels, routes and slots -/

@[simp] theorem State.modChan_tb (i : Fin 10) (f : Channel → Channel) (s : State) : (s.modChan i f).tb = s.tb := rfl
@[simp] theorem State.modChan_router (i : Fin 10) (f : Channel → Channel) (s : State) : (s.modChan i f).router = s.router := rfl
@[simp] theorem State.modChan_pose (i : Fin 10) (f : Channel → Channel) (s : State) : (s.modChan i f).pose = s.pose := rfl
@[simp] theorem State.modChan_bus (i : Fin 10) (f : Channel → Channel) (s : State) : (s.modChan i f).bus = s.bus := rfl
@[simp] theorem State.modChan_crew (i : Fin 10) (f : Channel → Channel) (s : State) : (s.modChan i f).crew = s.crew := rfl
@[simp] theorem State.modChan_gov (i : Fin 10) (f : Channel → Channel) (s : State) : (s.modChan i f).gov = s.gov := rfl
@[simp] theorem State.modChan_stop (i : Fin 10) (f : Channel → Channel) (s : State) : (s.modChan i f).stop = s.stop := rfl
@[simp] theorem State.modChan_lens (i : Fin 10) (f : Channel → Channel) (s : State) : (s.modChan i f).lens = s.lens := rfl
@[simp] theorem State.modChan_mem (i : Fin 10) (f : Channel → Channel) (s : State) : (s.modChan i f).mem = s.mem := rfl
@[simp] theorem State.modChan_recorder (i : Fin 10) (f : Channel → Channel) (s : State) : (s.modChan i f).recorder = s.recorder := rfl
@[simp] theorem State.modChan_player (i : Fin 10) (f : Channel → Channel) (s : State) : (s.modChan i f).player = s.player := rfl
@[simp] theorem State.modChan_link (i : Fin 10) (f : Channel → Channel) (s : State) : (s.modChan i f).link = s.link := rfl
@[simp] theorem State.modChan_store (i : Fin 10) (f : Channel → Channel) (s : State) : (s.modChan i f).store = s.store := rfl
@[simp] theorem State.modChan_pending (i : Fin 10) (f : Channel → Channel) (s : State) : (s.modChan i f).pending = s.pending := rfl
@[simp] theorem State.modChan_chans (i : Fin 10) (f : Channel → Channel) (s : State) :
    (s.modChan i f).chans = s.chans.set i (f s.chans[i]) := rfl
@[simp] theorem State.mapChans_tb (f : Fin 10 → Channel → Channel) (s : State) : (s.mapChans f).tb = s.tb := rfl
@[simp] theorem State.mapChans_router (f : Fin 10 → Channel → Channel) (s : State) : (s.mapChans f).router = s.router := rfl
@[simp] theorem State.mapChans_pose (f : Fin 10 → Channel → Channel) (s : State) : (s.mapChans f).pose = s.pose := rfl
@[simp] theorem State.mapChans_bus (f : Fin 10 → Channel → Channel) (s : State) : (s.mapChans f).bus = s.bus := rfl
@[simp] theorem State.mapChans_crew (f : Fin 10 → Channel → Channel) (s : State) : (s.mapChans f).crew = s.crew := rfl
@[simp] theorem State.mapChans_gov (f : Fin 10 → Channel → Channel) (s : State) : (s.mapChans f).gov = s.gov := rfl
@[simp] theorem State.mapChans_stop (f : Fin 10 → Channel → Channel) (s : State) : (s.mapChans f).stop = s.stop := rfl
@[simp] theorem State.mapChans_lens (f : Fin 10 → Channel → Channel) (s : State) : (s.mapChans f).lens = s.lens := rfl
@[simp] theorem State.mapChans_mem (f : Fin 10 → Channel → Channel) (s : State) : (s.mapChans f).mem = s.mem := rfl
@[simp] theorem State.mapChans_recorder (f : Fin 10 → Channel → Channel) (s : State) : (s.mapChans f).recorder = s.recorder := rfl
@[simp] theorem State.mapChans_player (f : Fin 10 → Channel → Channel) (s : State) : (s.mapChans f).player = s.player := rfl
@[simp] theorem State.mapChans_link (f : Fin 10 → Channel → Channel) (s : State) : (s.mapChans f).link = s.link := rfl
@[simp] theorem State.mapChans_store (f : Fin 10 → Channel → Channel) (s : State) : (s.mapChans f).store = s.store := rfl
@[simp] theorem State.mapChans_pending (f : Fin 10 → Channel → Channel) (s : State) : (s.mapChans f).pending = s.pending := rfl
@[simp] theorem State.mapChans_chans (f : Fin 10 → Channel → Channel) (s : State) :
    (s.mapChans f).chans = Vector.ofFn fun i => f i s.chans[i] := rfl
@[simp] theorem State.disarm_tb (chosen : Fin 10 → Bool) (s : State) : (s.disarm chosen).tb = s.tb := rfl
@[simp] theorem State.disarm_chans (chosen : Fin 10 → Bool) (s : State) : (s.disarm chosen).chans = s.chans := rfl
@[simp] theorem State.disarm_pose (chosen : Fin 10 → Bool) (s : State) : (s.disarm chosen).pose = s.pose := rfl
@[simp] theorem State.disarm_bus (chosen : Fin 10 → Bool) (s : State) : (s.disarm chosen).bus = s.bus := rfl
@[simp] theorem State.disarm_crew (chosen : Fin 10 → Bool) (s : State) : (s.disarm chosen).crew = s.crew := rfl
@[simp] theorem State.disarm_gov (chosen : Fin 10 → Bool) (s : State) : (s.disarm chosen).gov = s.gov := rfl
@[simp] theorem State.disarm_stop (chosen : Fin 10 → Bool) (s : State) : (s.disarm chosen).stop = s.stop := rfl
@[simp] theorem State.disarm_lens (chosen : Fin 10 → Bool) (s : State) : (s.disarm chosen).lens = s.lens := rfl
@[simp] theorem State.disarm_mem (chosen : Fin 10 → Bool) (s : State) : (s.disarm chosen).mem = s.mem := rfl
@[simp] theorem State.disarm_recorder (chosen : Fin 10 → Bool) (s : State) : (s.disarm chosen).recorder = s.recorder := rfl
@[simp] theorem State.disarm_player (chosen : Fin 10 → Bool) (s : State) : (s.disarm chosen).player = s.player := rfl
@[simp] theorem State.disarm_link (chosen : Fin 10 → Bool) (s : State) : (s.disarm chosen).link = s.link := rfl
@[simp] theorem State.disarm_store (chosen : Fin 10 → Bool) (s : State) : (s.disarm chosen).store = s.store := rfl
@[simp] theorem State.disarm_pending (chosen : Fin 10 → Bool) (s : State) : (s.disarm chosen).pending = s.pending := rfl
@[simp] theorem State.followStart_tb (s : State) : (s.followStart).tb = s.tb := rfl
@[simp] theorem State.followStart_chans (s : State) : (s.followStart).chans = s.chans := rfl
@[simp] theorem State.followStart_router (s : State) : (s.followStart).router = s.router := rfl
@[simp] theorem State.followStart_pose (s : State) : (s.followStart).pose = s.pose := rfl
@[simp] theorem State.followStart_bus (s : State) : (s.followStart).bus = s.bus := rfl
@[simp] theorem State.followStart_crew (s : State) : (s.followStart).crew = s.crew := rfl
@[simp] theorem State.followStart_gov (s : State) : (s.followStart).gov = s.gov := rfl
@[simp] theorem State.followStart_stop (s : State) : (s.followStart).stop = s.stop := rfl
@[simp] theorem State.followStart_mem (s : State) : (s.followStart).mem = s.mem := rfl
@[simp] theorem State.followStart_recorder (s : State) : (s.followStart).recorder = s.recorder := rfl
@[simp] theorem State.followStart_player (s : State) : (s.followStart).player = s.player := rfl
@[simp] theorem State.followStart_link (s : State) : (s.followStart).link = s.link := rfl
@[simp] theorem State.followStart_store (s : State) : (s.followStart).store = s.store := rfl
@[simp] theorem State.followStart_pending (s : State) : (s.followStart).pending = s.pending := rfl
@[simp] theorem State.followStop_tb (s : State) : (s.followStop).tb = s.tb := rfl
@[simp] theorem State.followStop_chans (s : State) : (s.followStop).chans = s.chans := rfl
@[simp] theorem State.followStop_router (s : State) : (s.followStop).router = s.router := rfl
@[simp] theorem State.followStop_pose (s : State) : (s.followStop).pose = s.pose := rfl
@[simp] theorem State.followStop_bus (s : State) : (s.followStop).bus = s.bus := rfl
@[simp] theorem State.followStop_crew (s : State) : (s.followStop).crew = s.crew := rfl
@[simp] theorem State.followStop_gov (s : State) : (s.followStop).gov = s.gov := rfl
@[simp] theorem State.followStop_stop (s : State) : (s.followStop).stop = s.stop := rfl
@[simp] theorem State.followStop_mem (s : State) : (s.followStop).mem = s.mem := rfl
@[simp] theorem State.followStop_recorder (s : State) : (s.followStop).recorder = s.recorder := rfl
@[simp] theorem State.followStop_player (s : State) : (s.followStop).player = s.player := rfl
@[simp] theorem State.followStop_link (s : State) : (s.followStop).link = s.link := rfl
@[simp] theorem State.followStop_store (s : State) : (s.followStop).store = s.store := rfl
@[simp] theorem State.followStop_pending (s : State) : (s.followStop).pending = s.pending := rfl
@[simp] theorem State.modSlot_tb (i : Fin 32) (f : Slot → Slot) (s : State) : (s.modSlot i f).tb = s.tb := rfl
@[simp] theorem State.modSlot_chans (i : Fin 32) (f : Slot → Slot) (s : State) : (s.modSlot i f).chans = s.chans := rfl
@[simp] theorem State.modSlot_router (i : Fin 32) (f : Slot → Slot) (s : State) : (s.modSlot i f).router = s.router := rfl
@[simp] theorem State.modSlot_pose (i : Fin 32) (f : Slot → Slot) (s : State) : (s.modSlot i f).pose = s.pose := rfl
@[simp] theorem State.modSlot_bus (i : Fin 32) (f : Slot → Slot) (s : State) : (s.modSlot i f).bus = s.bus := rfl
@[simp] theorem State.modSlot_crew (i : Fin 32) (f : Slot → Slot) (s : State) : (s.modSlot i f).crew = s.crew := rfl
@[simp] theorem State.modSlot_gov (i : Fin 32) (f : Slot → Slot) (s : State) : (s.modSlot i f).gov = s.gov := rfl
@[simp] theorem State.modSlot_stop (i : Fin 32) (f : Slot → Slot) (s : State) : (s.modSlot i f).stop = s.stop := rfl
@[simp] theorem State.modSlot_lens (i : Fin 32) (f : Slot → Slot) (s : State) : (s.modSlot i f).lens = s.lens := rfl
@[simp] theorem State.modSlot_recorder (i : Fin 32) (f : Slot → Slot) (s : State) : (s.modSlot i f).recorder = s.recorder := rfl
@[simp] theorem State.modSlot_player (i : Fin 32) (f : Slot → Slot) (s : State) : (s.modSlot i f).player = s.player := rfl
@[simp] theorem State.modSlot_link (i : Fin 32) (f : Slot → Slot) (s : State) : (s.modSlot i f).link = s.link := rfl
@[simp] theorem State.modSlot_store (i : Fin 32) (f : Slot → Slot) (s : State) : (s.modSlot i f).store = s.store := rfl
@[simp] theorem State.modSlot_pending (i : Fin 32) (f : Slot → Slot) (s : State) : (s.modSlot i f).pending = s.pending := rfl
@[simp] theorem State.modSlot_mem (i : Fin 32) (f : Slot → Slot) (s : State) :
    (s.modSlot i f).mem = { s.mem with slots := s.mem.slots.set i (f s.mem.slots[i]) } := rfl

/-! ### The governor scale -/

@[simp] theorem State.publishScale_tb (v : Nat) (s : State) : (s.publishScale v).tb = s.tb := rfl
@[simp] theorem State.publishScale_chans (v : Nat) (s : State) : (s.publishScale v).chans = s.chans := rfl
@[simp] theorem State.publishScale_router (v : Nat) (s : State) : (s.publishScale v).router = s.router := rfl
@[simp] theorem State.publishScale_pose (v : Nat) (s : State) : (s.publishScale v).pose = s.pose := rfl
@[simp] theorem State.publishScale_bus (v : Nat) (s : State) : (s.publishScale v).bus = s.bus := rfl
@[simp] theorem State.publishScale_crew (v : Nat) (s : State) : (s.publishScale v).crew = s.crew := rfl
@[simp] theorem State.publishScale_stop (v : Nat) (s : State) : (s.publishScale v).stop = s.stop := rfl
@[simp] theorem State.publishScale_lens (v : Nat) (s : State) : (s.publishScale v).lens = s.lens := rfl
@[simp] theorem State.publishScale_mem (v : Nat) (s : State) : (s.publishScale v).mem = s.mem := rfl
@[simp] theorem State.publishScale_recorder (v : Nat) (s : State) : (s.publishScale v).recorder = s.recorder := rfl
@[simp] theorem State.publishScale_player (v : Nat) (s : State) : (s.publishScale v).player = s.player := rfl
@[simp] theorem State.publishScale_link (v : Nat) (s : State) : (s.publishScale v).link = s.link := rfl
@[simp] theorem State.publishScale_store (v : Nat) (s : State) : (s.publishScale v).store = s.store := rfl
@[simp] theorem State.publishScale_pending (v : Nat) (s : State) : (s.publishScale v).pending = s.pending := rfl
@[simp] theorem State.publishScale_scale (v : Nat) (s : State) : (s.publishScale v).gov.scale = v := rfl
@[simp] theorem State.publishScale_latch (v : Nat) (s : State) :
    (s.publishScale v).gov.latch = s.gov.latch := rfl
@[simp] theorem State.publishScale_params (v : Nat) (s : State) :
    (s.publishScale v).gov.params = s.gov.params := rfl

end Sys2Proof.Machine
end

