-- ==== Sys2Proof/Laws/Ops.lean ====
section
/-! SUPPORT. For each shared operation of Machine/Ops.lean that is more than a record update: what of the state it
leaves, and one lemma that says what it does to the rest. -/

namespace Sys2Proof.Machine

/-! ### What each operation leaves -/

@[simp] theorem State.raiseIf_tb (b : Bool) (r : Raise) (s : State) : (s.raiseIf b r).tb = s.tb := by cases b <;> rfl
@[simp] theorem State.raiseIf_chans (b : Bool) (r : Raise) (s : State) : (s.raiseIf b r).chans = s.chans := by cases b <;> rfl
@[simp] theorem State.raiseIf_router (b : Bool) (r : Raise) (s : State) : (s.raiseIf b r).router = s.router := by cases b <;> rfl
@[simp] theorem State.raiseIf_pose (b : Bool) (r : Raise) (s : State) : (s.raiseIf b r).pose = s.pose := by cases b <;> rfl
@[simp] theorem State.raiseIf_bus (b : Bool) (r : Raise) (s : State) : (s.raiseIf b r).bus = s.bus := by cases b <;> rfl
@[simp] theorem State.raiseIf_crew (b : Bool) (r : Raise) (s : State) : (s.raiseIf b r).crew = s.crew := by cases b <;> rfl
@[simp] theorem State.raiseIf_gov (b : Bool) (r : Raise) (s : State) : (s.raiseIf b r).gov = s.gov := by cases b <;> rfl
@[simp] theorem State.raiseIf_stop (b : Bool) (r : Raise) (s : State) : (s.raiseIf b r).stop = s.stop := by cases b <;> rfl
@[simp] theorem State.raiseIf_lens (b : Bool) (r : Raise) (s : State) : (s.raiseIf b r).lens = s.lens := by cases b <;> rfl
@[simp] theorem State.raiseIf_mem (b : Bool) (r : Raise) (s : State) : (s.raiseIf b r).mem = s.mem := by cases b <;> rfl
@[simp] theorem State.raiseIf_recorder (b : Bool) (r : Raise) (s : State) : (s.raiseIf b r).recorder = s.recorder := by cases b <;> rfl
@[simp] theorem State.raiseIf_player (b : Bool) (r : Raise) (s : State) : (s.raiseIf b r).player = s.player := by cases b <;> rfl
@[simp] theorem State.raiseIf_store (b : Bool) (r : Raise) (s : State) : (s.raiseIf b r).store = s.store := by cases b <;> rfl
@[simp] theorem State.raiseIf_pending (b : Bool) (r : Raise) (s : State) : (s.raiseIf b r).pending = s.pending := by cases b <;> rfl

@[simp] theorem State.setActive_tb (i : Fin 10) (a : ActiveSource) (s : State) : (s.setActive i a).tb = s.tb := by
  simp only [State.setActive]; split <;> (try split) <;> rfl
@[simp] theorem State.setActive_pose (i : Fin 10) (a : ActiveSource) (s : State) : (s.setActive i a).pose = s.pose := by
  simp only [State.setActive]; split <;> (try split) <;> rfl
@[simp] theorem State.setActive_bus (i : Fin 10) (a : ActiveSource) (s : State) : (s.setActive i a).bus = s.bus := by
  simp only [State.setActive]; split <;> (try split) <;> rfl
@[simp] theorem State.setActive_crew (i : Fin 10) (a : ActiveSource) (s : State) : (s.setActive i a).crew = s.crew := by
  simp only [State.setActive]; split <;> (try split) <;> rfl
@[simp] theorem State.setActive_gov (i : Fin 10) (a : ActiveSource) (s : State) : (s.setActive i a).gov = s.gov := by
  simp only [State.setActive]; split <;> (try split) <;> rfl
@[simp] theorem State.setActive_stop (i : Fin 10) (a : ActiveSource) (s : State) : (s.setActive i a).stop = s.stop := by
  simp only [State.setActive]; split <;> (try split) <;> rfl
@[simp] theorem State.setActive_mem (i : Fin 10) (a : ActiveSource) (s : State) : (s.setActive i a).mem = s.mem := by
  simp only [State.setActive]; split <;> (try split) <;> rfl
@[simp] theorem State.setActive_recorder (i : Fin 10) (a : ActiveSource) (s : State) : (s.setActive i a).recorder = s.recorder := by
  simp only [State.setActive]; split <;> (try split) <;> rfl
@[simp] theorem State.setActive_player (i : Fin 10) (a : ActiveSource) (s : State) : (s.setActive i a).player = s.player := by
  simp only [State.setActive]; split <;> (try split) <;> rfl
@[simp] theorem State.setActive_link (i : Fin 10) (a : ActiveSource) (s : State) : (s.setActive i a).link = s.link := by
  simp only [State.setActive]; split <;> (try split) <;> rfl
@[simp] theorem State.setActive_store (i : Fin 10) (a : ActiveSource) (s : State) : (s.setActive i a).store = s.store := by
  simp only [State.setActive]; split <;> (try split) <;> rfl
@[simp] theorem State.setActive_pending (i : Fin 10) (a : ActiveSource) (s : State) : (s.setActive i a).pending = s.pending := by
  simp only [State.setActive]; split <;> (try split) <;> rfl

@[simp] theorem State.giveBackChannels_tb (set : List (Fin 10)) (s : State) : (s.giveBackChannels set).tb = s.tb := by
  unfold State.giveBackChannels
  induction set generalizing s with
  | nil => rfl
  | cons i rest ih => simp only [List.foldl_cons, ih, State.setActive_tb]
@[simp] theorem State.giveBackChannels_pose (set : List (Fin 10)) (s : State) : (s.giveBackChannels set).pose = s.pose := by
  unfold State.giveBackChannels
  induction set generalizing s with
  | nil => rfl
  | cons i rest ih => simp only [List.foldl_cons, ih, State.setActive_pose]
@[simp] theorem State.giveBackChannels_bus (set : List (Fin 10)) (s : State) : (s.giveBackChannels set).bus = s.bus := by
  unfold State.giveBackChannels
  induction set generalizing s with
  | nil => rfl
  | cons i rest ih => simp only [List.foldl_cons, ih, State.setActive_bus]
@[simp] theorem State.giveBackChannels_crew (set : List (Fin 10)) (s : State) : (s.giveBackChannels set).crew = s.crew := by
  unfold State.giveBackChannels
  induction set generalizing s with
  | nil => rfl
  | cons i rest ih => simp only [List.foldl_cons, ih, State.setActive_crew]
@[simp] theorem State.giveBackChannels_gov (set : List (Fin 10)) (s : State) : (s.giveBackChannels set).gov = s.gov := by
  unfold State.giveBackChannels
  induction set generalizing s with
  | nil => rfl
  | cons i rest ih => simp only [List.foldl_cons, ih, State.setActive_gov]
@[simp] theorem State.giveBackChannels_stop (set : List (Fin 10)) (s : State) : (s.giveBackChannels set).stop = s.stop := by
  unfold State.giveBackChannels
  induction set generalizing s with
  | nil => rfl
  | cons i rest ih => simp only [List.foldl_cons, ih, State.setActive_stop]
@[simp] theorem State.giveBackChannels_mem (set : List (Fin 10)) (s : State) : (s.giveBackChannels set).mem = s.mem := by
  unfold State.giveBackChannels
  induction set generalizing s with
  | nil => rfl
  | cons i rest ih => simp only [List.foldl_cons, ih, State.setActive_mem]
@[simp] theorem State.giveBackChannels_recorder (set : List (Fin 10)) (s : State) : (s.giveBackChannels set).recorder = s.recorder := by
  unfold State.giveBackChannels
  induction set generalizing s with
  | nil => rfl
  | cons i rest ih => simp only [List.foldl_cons, ih, State.setActive_recorder]
@[simp] theorem State.giveBackChannels_player (set : List (Fin 10)) (s : State) : (s.giveBackChannels set).player = s.player := by
  unfold State.giveBackChannels
  induction set generalizing s with
  | nil => rfl
  | cons i rest ih => simp only [List.foldl_cons, ih, State.setActive_player]
@[simp] theorem State.giveBackChannels_link (set : List (Fin 10)) (s : State) : (s.giveBackChannels set).link = s.link := by
  unfold State.giveBackChannels
  induction set generalizing s with
  | nil => rfl
  | cons i rest ih => simp only [List.foldl_cons, ih, State.setActive_link]
@[simp] theorem State.giveBackChannels_store (set : List (Fin 10)) (s : State) : (s.giveBackChannels set).store = s.store := by
  unfold State.giveBackChannels
  induction set generalizing s with
  | nil => rfl
  | cons i rest ih => simp only [List.foldl_cons, ih, State.setActive_store]
@[simp] theorem State.giveBackChannels_pending (set : List (Fin 10)) (s : State) : (s.giveBackChannels set).pending = s.pending := by
  unfold State.giveBackChannels
  induction set generalizing s with
  | nil => rfl
  | cons i rest ih => simp only [List.foldl_cons, ih, State.setActive_pending]

@[simp] theorem State.endRecording_tb (e : Ending) (s : State) : (s.endRecording e).tb = s.tb := by
  unfold State.endRecording; split
  · rfl
  · dsimp only; split <;> rfl
@[simp] theorem State.endRecording_chans (e : Ending) (s : State) : (s.endRecording e).chans = s.chans := by
  unfold State.endRecording; split
  · rfl
  · dsimp only; split <;> rfl
@[simp] theorem State.endRecording_router (e : Ending) (s : State) : (s.endRecording e).router = s.router := by
  unfold State.endRecording; split
  · rfl
  · dsimp only; split <;> rfl
@[simp] theorem State.endRecording_pose (e : Ending) (s : State) : (s.endRecording e).pose = s.pose := by
  unfold State.endRecording; split
  · rfl
  · dsimp only; split <;> rfl
@[simp] theorem State.endRecording_bus (e : Ending) (s : State) : (s.endRecording e).bus = s.bus := by
  unfold State.endRecording; split
  · rfl
  · dsimp only; split <;> rfl
@[simp] theorem State.endRecording_crew (e : Ending) (s : State) : (s.endRecording e).crew = s.crew := by
  unfold State.endRecording; split
  · rfl
  · dsimp only; split <;> rfl
@[simp] theorem State.endRecording_gov (e : Ending) (s : State) : (s.endRecording e).gov = s.gov := by
  unfold State.endRecording; split
  · rfl
  · dsimp only; split <;> rfl
@[simp] theorem State.endRecording_stop (e : Ending) (s : State) : (s.endRecording e).stop = s.stop := by
  unfold State.endRecording; split
  · rfl
  · dsimp only; split <;> rfl
@[simp] theorem State.endRecording_lens (e : Ending) (s : State) : (s.endRecording e).lens = s.lens := by
  unfold State.endRecording; split
  · rfl
  · dsimp only; split <;> rfl
@[simp] theorem State.endRecording_player (e : Ending) (s : State) : (s.endRecording e).player = s.player := by
  unfold State.endRecording; split
  · rfl
  · dsimp only; split <;> rfl
@[simp] theorem State.endRecording_store (e : Ending) (s : State) : (s.endRecording e).store = s.store := by
  unfold State.endRecording; split
  · rfl
  · dsimp only; split <;> rfl
@[simp] theorem State.endRecording_pending (e : Ending) (s : State) : (s.endRecording e).pending = s.pending := by
  unfold State.endRecording; split
  · rfl
  · dsimp only; split <;> rfl

@[simp] theorem State.cancelRecording_tb (s : State) : (s.cancelRecording).tb = s.tb := by
  unfold State.cancelRecording; split <;> rfl
@[simp] theorem State.cancelRecording_chans (s : State) : (s.cancelRecording).chans = s.chans := by
  unfold State.cancelRecording; split <;> rfl
@[simp] theorem State.cancelRecording_router (s : State) : (s.cancelRecording).router = s.router := by
  unfold State.cancelRecording; split <;> rfl
@[simp] theorem State.cancelRecording_pose (s : State) : (s.cancelRecording).pose = s.pose := by
  unfold State.cancelRecording; split <;> rfl
@[simp] theorem State.cancelRecording_bus (s : State) : (s.cancelRecording).bus = s.bus := by
  unfold State.cancelRecording; split <;> rfl
@[simp] theorem State.cancelRecording_crew (s : State) : (s.cancelRecording).crew = s.crew := by
  unfold State.cancelRecording; split <;> rfl
@[simp] theorem State.cancelRecording_gov (s : State) : (s.cancelRecording).gov = s.gov := by
  unfold State.cancelRecording; split <;> rfl
@[simp] theorem State.cancelRecording_stop (s : State) : (s.cancelRecording).stop = s.stop := by
  unfold State.cancelRecording; split <;> rfl
@[simp] theorem State.cancelRecording_lens (s : State) : (s.cancelRecording).lens = s.lens := by
  unfold State.cancelRecording; split <;> rfl
@[simp] theorem State.cancelRecording_player (s : State) : (s.cancelRecording).player = s.player := by
  unfold State.cancelRecording; split <;> rfl
@[simp] theorem State.cancelRecording_store (s : State) : (s.cancelRecording).store = s.store := by
  unfold State.cancelRecording; split <;> rfl
@[simp] theorem State.cancelRecording_pending (s : State) : (s.cancelRecording).pending = s.pending := by
  unfold State.cancelRecording; split <;> rfl

@[simp] theorem State.recorderEmergency_tb (s : State) : (s.recorderEmergency).tb = s.tb := by
  unfold State.recorderEmergency; split <;> simp
@[simp] theorem State.recorderEmergency_chans (s : State) : (s.recorderEmergency).chans = s.chans := by
  unfold State.recorderEmergency; split <;> simp
@[simp] theorem State.recorderEmergency_router (s : State) : (s.recorderEmergency).router = s.router := by
  unfold State.recorderEmergency; split <;> simp
@[simp] theorem State.recorderEmergency_pose (s : State) : (s.recorderEmergency).pose = s.pose := by
  unfold State.recorderEmergency; split <;> simp
@[simp] theorem State.recorderEmergency_bus (s : State) : (s.recorderEmergency).bus = s.bus := by
  unfold State.recorderEmergency; split <;> simp
@[simp] theorem State.recorderEmergency_crew (s : State) : (s.recorderEmergency).crew = s.crew := by
  unfold State.recorderEmergency; split <;> simp
@[simp] theorem State.recorderEmergency_gov (s : State) : (s.recorderEmergency).gov = s.gov := by
  unfold State.recorderEmergency; split <;> simp
@[simp] theorem State.recorderEmergency_stop (s : State) : (s.recorderEmergency).stop = s.stop := by
  unfold State.recorderEmergency; split <;> simp
@[simp] theorem State.recorderEmergency_lens (s : State) : (s.recorderEmergency).lens = s.lens := by
  unfold State.recorderEmergency; split <;> simp
@[simp] theorem State.recorderEmergency_player (s : State) : (s.recorderEmergency).player = s.player := by
  unfold State.recorderEmergency; split <;> simp
@[simp] theorem State.recorderEmergency_store (s : State) : (s.recorderEmergency).store = s.store := by
  unfold State.recorderEmergency; split <;> simp
@[simp] theorem State.recorderEmergency_pending (s : State) : (s.recorderEmergency).pending = s.pending := by
  unfold State.recorderEmergency; split <;> simp

@[simp] theorem State.closePass_tb (r : PassResult) (s : State) : (s.closePass r).tb = s.tb := by
  unfold State.closePass; split <;> rfl
@[simp] theorem State.closePass_chans (r : PassResult) (s : State) : (s.closePass r).chans = s.chans := by
  unfold State.closePass; split <;> rfl
@[simp] theorem State.closePass_router (r : PassResult) (s : State) : (s.closePass r).router = s.router := by
  unfold State.closePass; split <;> rfl
@[simp] theorem State.closePass_pose (r : PassResult) (s : State) : (s.closePass r).pose = s.pose := by
  unfold State.closePass; split <;> rfl
@[simp] theorem State.closePass_bus (r : PassResult) (s : State) : (s.closePass r).bus = s.bus := by
  unfold State.closePass; split <;> rfl
@[simp] theorem State.closePass_crew (r : PassResult) (s : State) : (s.closePass r).crew = s.crew := by
  unfold State.closePass; split <;> rfl
@[simp] theorem State.closePass_gov (r : PassResult) (s : State) : (s.closePass r).gov = s.gov := by
  unfold State.closePass; split <;> rfl
@[simp] theorem State.closePass_stop (r : PassResult) (s : State) : (s.closePass r).stop = s.stop := by
  unfold State.closePass; split <;> rfl
@[simp] theorem State.closePass_lens (r : PassResult) (s : State) : (s.closePass r).lens = s.lens := by
  unfold State.closePass; split <;> rfl
@[simp] theorem State.closePass_recorder (r : PassResult) (s : State) : (s.closePass r).recorder = s.recorder := by
  unfold State.closePass; split <;> rfl
@[simp] theorem State.closePass_store (r : PassResult) (s : State) : (s.closePass r).store = s.store := by
  unfold State.closePass; split <;> rfl
@[simp] theorem State.closePass_pending (r : PassResult) (s : State) : (s.closePass r).pending = s.pending := by
  unfold State.closePass; split <;> rfl

@[simp] theorem State.letGo_tb (s : State) : (s.letGo).tb = s.tb := by
  unfold State.letGo; dsimp only; split <;> simp
@[simp] theorem State.letGo_pose (s : State) : (s.letGo).pose = s.pose := by
  unfold State.letGo; dsimp only; split <;> simp
@[simp] theorem State.letGo_bus (s : State) : (s.letGo).bus = s.bus := by
  unfold State.letGo; dsimp only; split <;> simp
@[simp] theorem State.letGo_crew (s : State) : (s.letGo).crew = s.crew := by
  unfold State.letGo; dsimp only; split <;> simp
@[simp] theorem State.letGo_gov (s : State) : (s.letGo).gov = s.gov := by
  unfold State.letGo; dsimp only; split <;> simp
@[simp] theorem State.letGo_stop (s : State) : (s.letGo).stop = s.stop := by
  unfold State.letGo; dsimp only; split <;> simp
@[simp] theorem State.letGo_store (s : State) : (s.letGo).store = s.store := by
  unfold State.letGo; dsimp only; split <;> simp
@[simp] theorem State.letGo_pending (s : State) : (s.letGo).pending = s.pending := by
  unfold State.letGo; dsimp only; split <;> simp

@[simp] theorem State.playerEmergency_tb (s : State) : (s.playerEmergency).tb = s.tb := by
  unfold State.playerEmergency; split
  · rfl
  · dsimp only; split <;> simp
@[simp] theorem State.playerEmergency_pose (s : State) : (s.playerEmergency).pose = s.pose := by
  unfold State.playerEmergency; split
  · rfl
  · dsimp only; split <;> simp
@[simp] theorem State.playerEmergency_bus (s : State) : (s.playerEmergency).bus = s.bus := by
  unfold State.playerEmergency; split
  · rfl
  · dsimp only; split <;> simp
@[simp] theorem State.playerEmergency_crew (s : State) : (s.playerEmergency).crew = s.crew := by
  unfold State.playerEmergency; split
  · rfl
  · dsimp only; split <;> simp
@[simp] theorem State.playerEmergency_gov (s : State) : (s.playerEmergency).gov = s.gov := by
  unfold State.playerEmergency; split
  · rfl
  · dsimp only; split <;> simp
@[simp] theorem State.playerEmergency_stop (s : State) : (s.playerEmergency).stop = s.stop := by
  unfold State.playerEmergency; split
  · rfl
  · dsimp only; split <;> simp
@[simp] theorem State.playerEmergency_store (s : State) : (s.playerEmergency).store = s.store := by
  unfold State.playerEmergency; split
  · rfl
  · dsimp only; split <;> simp
@[simp] theorem State.playerEmergency_pending (s : State) : (s.playerEmergency).pending = s.pending := by
  unfold State.playerEmergency; split
  · rfl
  · dsimp only; split <;> simp

@[simp] theorem State.flagPass_tb (f : PassFlags → PassFlags) (s : State) : (s.flagPass f).tb = s.tb := by
  unfold State.flagPass; split
  · split <;> rfl
  · rfl
@[simp] theorem State.flagPass_chans (f : PassFlags → PassFlags) (s : State) : (s.flagPass f).chans = s.chans := by
  unfold State.flagPass; split
  · split <;> rfl
  · rfl
@[simp] theorem State.flagPass_router (f : PassFlags → PassFlags) (s : State) : (s.flagPass f).router = s.router := by
  unfold State.flagPass; split
  · split <;> rfl
  · rfl
@[simp] theorem State.flagPass_pose (f : PassFlags → PassFlags) (s : State) : (s.flagPass f).pose = s.pose := by
  unfold State.flagPass; split
  · split <;> rfl
  · rfl
@[simp] theorem State.flagPass_bus (f : PassFlags → PassFlags) (s : State) : (s.flagPass f).bus = s.bus := by
  unfold State.flagPass; split
  · split <;> rfl
  · rfl
@[simp] theorem State.flagPass_crew (f : PassFlags → PassFlags) (s : State) : (s.flagPass f).crew = s.crew := by
  unfold State.flagPass; split
  · split <;> rfl
  · rfl
@[simp] theorem State.flagPass_gov (f : PassFlags → PassFlags) (s : State) : (s.flagPass f).gov = s.gov := by
  unfold State.flagPass; split
  · split <;> rfl
  · rfl
@[simp] theorem State.flagPass_stop (f : PassFlags → PassFlags) (s : State) : (s.flagPass f).stop = s.stop := by
  unfold State.flagPass; split
  · split <;> rfl
  · rfl
@[simp] theorem State.flagPass_lens (f : PassFlags → PassFlags) (s : State) : (s.flagPass f).lens = s.lens := by
  unfold State.flagPass; split
  · split <;> rfl
  · rfl
@[simp] theorem State.flagPass_mem (f : PassFlags → PassFlags) (s : State) : (s.flagPass f).mem = s.mem := by
  unfold State.flagPass; split
  · split <;> rfl
  · rfl
@[simp] theorem State.flagPass_recorder (f : PassFlags → PassFlags) (s : State) : (s.flagPass f).recorder = s.recorder := by
  unfold State.flagPass; split
  · split <;> rfl
  · rfl
@[simp] theorem State.flagPass_store (f : PassFlags → PassFlags) (s : State) : (s.flagPass f).store = s.store := by
  unfold State.flagPass; split
  · split <;> rfl
  · rfl
@[simp] theorem State.flagPass_pending (f : PassFlags → PassFlags) (s : State) : (s.flagPass f).pending = s.pending := by
  unfold State.flagPass; split
  · split <;> rfl
  · rfl

@[simp] theorem State.enterStop_tb (st : StopState) (s : State) : (s.enterStop st).tb = s.tb := by
  unfold State.enterStop; dsimp only; split <;> simp
@[simp] theorem State.enterStop_pose (st : StopState) (s : State) : (s.enterStop st).pose = s.pose := by
  unfold State.enterStop; dsimp only; split <;> simp
@[simp] theorem State.enterStop_bus (st : StopState) (s : State) : (s.enterStop st).bus = s.bus := by
  unfold State.enterStop; dsimp only; split <;> simp
@[simp] theorem State.enterStop_crew (st : StopState) (s : State) : (s.enterStop st).crew = s.crew := by
  unfold State.enterStop; dsimp only; split <;> simp
@[simp] theorem State.enterStop_gov (st : StopState) (s : State) : (s.enterStop st).gov = s.gov := by
  unfold State.enterStop; dsimp only; split <;> simp
@[simp] theorem State.enterStop_store (st : StopState) (s : State) : (s.enterStop st).store = s.store := by
  unfold State.enterStop; dsimp only; split <;> simp
@[simp] theorem State.enterStop_pending (st : StopState) (s : State) : (s.enterStop st).pending = s.pending := by
  unfold State.enterStop; dsimp only; split <;> simp

@[simp] theorem State.applyCauses_tb (c : Causes) (s : State) : (s.applyCauses c).tb = s.tb := by
  unfold State.applyCauses; split
  · rfl
  · dsimp only; split <;> simp
@[simp] theorem State.applyCauses_pose (c : Causes) (s : State) : (s.applyCauses c).pose = s.pose := by
  unfold State.applyCauses; split
  · rfl
  · dsimp only; split <;> simp
@[simp] theorem State.applyCauses_bus (c : Causes) (s : State) : (s.applyCauses c).bus = s.bus := by
  unfold State.applyCauses; split
  · rfl
  · dsimp only; split <;> simp
@[simp] theorem State.applyCauses_crew (c : Causes) (s : State) : (s.applyCauses c).crew = s.crew := by
  unfold State.applyCauses; split
  · rfl
  · dsimp only; split <;> simp
@[simp] theorem State.applyCauses_gov (c : Causes) (s : State) : (s.applyCauses c).gov = s.gov := by
  unfold State.applyCauses; split
  · rfl
  · dsimp only; split <;> simp
@[simp] theorem State.applyCauses_store (c : Causes) (s : State) : (s.applyCauses c).store = s.store := by
  unfold State.applyCauses; split
  · rfl
  · dsimp only; split <;> simp
@[simp] theorem State.applyCauses_pending (c : Causes) (s : State) : (s.applyCauses c).pending = s.pending := by
  unfold State.applyCauses; split
  · rfl
  · dsimp only; split <;> simp

@[simp] theorem State.armFault_tb (i : Fin 4) (s : State) : (s.armFault i).tb = s.tb := by
  simp [State.armFault]
@[simp] theorem State.armFault_pose (i : Fin 4) (s : State) : (s.armFault i).pose = s.pose := by
  simp [State.armFault]
@[simp] theorem State.armFault_bus (i : Fin 4) (s : State) : (s.armFault i).bus = s.bus := by
  simp [State.armFault]
@[simp] theorem State.armFault_crew (i : Fin 4) (s : State) : (s.armFault i).crew = s.crew := by
  simp [State.armFault]
@[simp] theorem State.armFault_gov (i : Fin 4) (s : State) : (s.armFault i).gov = s.gov := by
  simp [State.armFault]
@[simp] theorem State.armFault_store (i : Fin 4) (s : State) : (s.armFault i).store = s.store := by
  simp [State.armFault]
@[simp] theorem State.armFault_pending (i : Fin 4) (s : State) : (s.armFault i).pending = s.pending := by
  simp [State.armFault]

@[simp] theorem State.armFaultGone_tb (i : Fin 10) (s : State) : (s.armFaultGone i).tb = s.tb := by
  unfold State.armFaultGone; split <;> rfl
@[simp] theorem State.armFaultGone_chans (i : Fin 10) (s : State) : (s.armFaultGone i).chans = s.chans := by
  unfold State.armFaultGone; split <;> rfl
@[simp] theorem State.armFaultGone_router (i : Fin 10) (s : State) : (s.armFaultGone i).router = s.router := by
  unfold State.armFaultGone; split <;> rfl
@[simp] theorem State.armFaultGone_pose (i : Fin 10) (s : State) : (s.armFaultGone i).pose = s.pose := by
  unfold State.armFaultGone; split <;> rfl
@[simp] theorem State.armFaultGone_bus (i : Fin 10) (s : State) : (s.armFaultGone i).bus = s.bus := by
  unfold State.armFaultGone; split <;> rfl
@[simp] theorem State.armFaultGone_crew (i : Fin 10) (s : State) : (s.armFaultGone i).crew = s.crew := by
  unfold State.armFaultGone; split <;> rfl
@[simp] theorem State.armFaultGone_gov (i : Fin 10) (s : State) : (s.armFaultGone i).gov = s.gov := by
  unfold State.armFaultGone; split <;> rfl
@[simp] theorem State.armFaultGone_lens (i : Fin 10) (s : State) : (s.armFaultGone i).lens = s.lens := by
  unfold State.armFaultGone; split <;> rfl
@[simp] theorem State.armFaultGone_mem (i : Fin 10) (s : State) : (s.armFaultGone i).mem = s.mem := by
  unfold State.armFaultGone; split <;> rfl
@[simp] theorem State.armFaultGone_recorder (i : Fin 10) (s : State) : (s.armFaultGone i).recorder = s.recorder := by
  unfold State.armFaultGone; split <;> rfl
@[simp] theorem State.armFaultGone_player (i : Fin 10) (s : State) : (s.armFaultGone i).player = s.player := by
  unfold State.armFaultGone; split <;> rfl
@[simp] theorem State.armFaultGone_link (i : Fin 10) (s : State) : (s.armFaultGone i).link = s.link := by
  unfold State.armFaultGone; split <;> rfl
@[simp] theorem State.armFaultGone_store (i : Fin 10) (s : State) : (s.armFaultGone i).store = s.store := by
  unfold State.armFaultGone; split <;> rfl
@[simp] theorem State.armFaultGone_pending (i : Fin 10) (s : State) : (s.armFaultGone i).pending = s.pending := by
  unfold State.armFaultGone; split <;> rfl

@[simp] theorem State.enforceCaps_tb (s : State) : (s.enforceCaps).tb = s.tb := by
  unfold State.enforceCaps; split <;> rfl
@[simp] theorem State.enforceCaps_chans (s : State) : (s.enforceCaps).chans = s.chans := by
  unfold State.enforceCaps; split <;> rfl
@[simp] theorem State.enforceCaps_router (s : State) : (s.enforceCaps).router = s.router := by
  unfold State.enforceCaps; split <;> rfl
@[simp] theorem State.enforceCaps_pose (s : State) : (s.enforceCaps).pose = s.pose := by
  unfold State.enforceCaps; split <;> rfl
@[simp] theorem State.enforceCaps_bus (s : State) : (s.enforceCaps).bus = s.bus := by
  unfold State.enforceCaps; split <;> rfl
@[simp] theorem State.enforceCaps_crew (s : State) : (s.enforceCaps).crew = s.crew := by
  unfold State.enforceCaps; split <;> rfl
@[simp] theorem State.enforceCaps_stop (s : State) : (s.enforceCaps).stop = s.stop := by
  unfold State.enforceCaps; split <;> rfl
@[simp] theorem State.enforceCaps_lens (s : State) : (s.enforceCaps).lens = s.lens := by
  unfold State.enforceCaps; split <;> rfl
@[simp] theorem State.enforceCaps_mem (s : State) : (s.enforceCaps).mem = s.mem := by
  unfold State.enforceCaps; split <;> rfl
@[simp] theorem State.enforceCaps_recorder (s : State) : (s.enforceCaps).recorder = s.recorder := by
  unfold State.enforceCaps; split <;> rfl
@[simp] theorem State.enforceCaps_player (s : State) : (s.enforceCaps).player = s.player := by
  unfold State.enforceCaps; split <;> rfl
@[simp] theorem State.enforceCaps_link (s : State) : (s.enforceCaps).link = s.link := by
  unfold State.enforceCaps; split <;> rfl
@[simp] theorem State.enforceCaps_store (s : State) : (s.enforceCaps).store = s.store := by
  unfold State.enforceCaps; split <;> rfl
@[simp] theorem State.enforceCaps_pending (s : State) : (s.enforceCaps).pending = s.pending := by
  unfold State.enforceCaps; split <;> rfl

@[simp] theorem State.joinLatch_tb (c : LatchCause) (i : Option LatchItem) (s : State) : (s.joinLatch c i).tb = s.tb := by
  unfold State.joinLatch; dsimp only; split
  · rfl
  · split <;> simp
@[simp] theorem State.joinLatch_pose (c : LatchCause) (i : Option LatchItem) (s : State) : (s.joinLatch c i).pose = s.pose := by
  unfold State.joinLatch; dsimp only; split
  · rfl
  · split <;> simp
@[simp] theorem State.joinLatch_bus (c : LatchCause) (i : Option LatchItem) (s : State) : (s.joinLatch c i).bus = s.bus := by
  unfold State.joinLatch; dsimp only; split
  · rfl
  · split <;> simp
@[simp] theorem State.joinLatch_crew (c : LatchCause) (i : Option LatchItem) (s : State) : (s.joinLatch c i).crew = s.crew := by
  unfold State.joinLatch; dsimp only; split
  · rfl
  · split <;> simp
@[simp] theorem State.joinLatch_store (c : LatchCause) (i : Option LatchItem) (s : State) : (s.joinLatch c i).store = s.store := by
  unfold State.joinLatch; dsimp only; split
  · rfl
  · split <;> simp
@[simp] theorem State.joinLatch_pending (c : LatchCause) (i : Option LatchItem) (s : State) : (s.joinLatch c i).pending = s.pending := by
  unfold State.joinLatch; dsimp only; split
  · rfl
  · split <;> simp

@[simp] theorem State.leaveLatch_tb (c : LatchCause) (s : State) : (s.leaveLatch c).tb = s.tb := by
  unfold State.leaveLatch; split <;> rfl
@[simp] theorem State.leaveLatch_chans (c : LatchCause) (s : State) : (s.leaveLatch c).chans = s.chans := by
  unfold State.leaveLatch; split <;> rfl
@[simp] theorem State.leaveLatch_router (c : LatchCause) (s : State) : (s.leaveLatch c).router = s.router := by
  unfold State.leaveLatch; split <;> rfl
@[simp] theorem State.leaveLatch_pose (c : LatchCause) (s : State) : (s.leaveLatch c).pose = s.pose := by
  unfold State.leaveLatch; split <;> rfl
@[simp] theorem State.leaveLatch_bus (c : LatchCause) (s : State) : (s.leaveLatch c).bus = s.bus := by
  unfold State.leaveLatch; split <;> rfl
@[simp] theorem State.leaveLatch_crew (c : LatchCause) (s : State) : (s.leaveLatch c).crew = s.crew := by
  unfold State.leaveLatch; split <;> rfl
@[simp] theorem State.leaveLatch_stop (c : LatchCause) (s : State) : (s.leaveLatch c).stop = s.stop := by
  unfold State.leaveLatch; split <;> rfl
@[simp] theorem State.leaveLatch_lens (c : LatchCause) (s : State) : (s.leaveLatch c).lens = s.lens := by
  unfold State.leaveLatch; split <;> rfl
@[simp] theorem State.leaveLatch_mem (c : LatchCause) (s : State) : (s.leaveLatch c).mem = s.mem := by
  unfold State.leaveLatch; split <;> rfl
@[simp] theorem State.leaveLatch_recorder (c : LatchCause) (s : State) : (s.leaveLatch c).recorder = s.recorder := by
  unfold State.leaveLatch; split <;> rfl
@[simp] theorem State.leaveLatch_player (c : LatchCause) (s : State) : (s.leaveLatch c).player = s.player := by
  unfold State.leaveLatch; split <;> rfl
@[simp] theorem State.leaveLatch_store (c : LatchCause) (s : State) : (s.leaveLatch c).store = s.store := by
  unfold State.leaveLatch; split <;> rfl
@[simp] theorem State.leaveLatch_pending (c : LatchCause) (s : State) : (s.leaveLatch c).pending = s.pending := by
  unfold State.leaveLatch; split <;> rfl

@[simp] theorem State.releaseLatch_tb (s : State) : (s.releaseLatch).tb = s.tb := by
  simp [State.releaseLatch]
@[simp] theorem State.releaseLatch_pose (s : State) : (s.releaseLatch).pose = s.pose := by
  simp [State.releaseLatch]
@[simp] theorem State.releaseLatch_bus (s : State) : (s.releaseLatch).bus = s.bus := by
  simp [State.releaseLatch]
@[simp] theorem State.releaseLatch_crew (s : State) : (s.releaseLatch).crew = s.crew := by
  simp [State.releaseLatch]
@[simp] theorem State.releaseLatch_store (s : State) : (s.releaseLatch).store = s.store := by
  simp [State.releaseLatch]
@[simp] theorem State.releaseLatch_pending (s : State) : (s.releaseLatch).pending = s.pending := by
  simp [State.releaseLatch]

@[simp] theorem State.syncOffline_tb (s : State) : (s.syncOffline).tb = s.tb := by
  unfold State.syncOffline; split <;> simp
@[simp] theorem State.syncOffline_pose (s : State) : (s.syncOffline).pose = s.pose := by
  unfold State.syncOffline; split <;> simp
@[simp] theorem State.syncOffline_bus (s : State) : (s.syncOffline).bus = s.bus := by
  unfold State.syncOffline; split <;> simp
@[simp] theorem State.syncOffline_crew (s : State) : (s.syncOffline).crew = s.crew := by
  unfold State.syncOffline; split <;> simp
@[simp] theorem State.syncOffline_store (s : State) : (s.syncOffline).store = s.store := by
  unfold State.syncOffline; split <;> simp
@[simp] theorem State.syncOffline_pending (s : State) : (s.syncOffline).pending = s.pending := by
  unfold State.syncOffline; split <;> simp

/-! ### What each operation does -/

/-- The cause set after `applyCauses` is the one given. -/
theorem State.applyCauses_causes (c : Causes) (s : State) : (s.applyCauses c).stop.causes = c := by
  unfold State.applyCauses
  split
  · exact ‹c = s.stop.causes›.symm
  · dsimp only
    split
    · rfl
    · unfold State.enterStop
      dsimp only
      split <;> simp

/-- The stop state after `applyCauses`: unchanged with the causes, else the one they give (R114). -/
theorem State.applyCauses_state (c : Causes) (s : State) :
    (s.applyCauses c).stop.state = if c = s.stop.causes then s.stop.state else c.stopState := by
  unfold State.applyCauses
  split
  · rfl
  · dsimp only
    split
    · exact ‹_ = _›.symm
    · unfold State.enterStop
      dsimp only
      split <;> simp

/-- A cause that joins stands in the latch's cause set (R107). -/
theorem State.joinLatch_has (c : LatchCause) (i : Option LatchItem) (s : State) :
    (s.joinLatch c i).gov.latch.has c = true := by
  unfold State.joinLatch
  dsimp only
  split
  · assumption
  · split <;> cases c <;> simp [State.publishScale, Latch.put, Latch.has]

/-- A cause that leaves stands there no more, and the latch stays as it is (R107). -/
theorem State.leaveLatch_has (c : LatchCause) (s : State) :
    (s.leaveLatch c).gov.latch.has c = false ∧ (s.leaveLatch c).gov.latch.isSet = s.gov.latch.isSet := by
  unfold State.leaveLatch
  split
  · cases c <;> simp [Latch.put, Latch.has]
  · simp_all

/-- The scale after `enforceCaps` obeys the caps (R105). -/
theorem State.enforceCaps_scale (s : State) (h : s.capStands = true) :
    s.enforceCaps.gov.scale ≤ s.gov.params.creep := by
  unfold State.enforceCaps
  split
  · simp
  · simp_all

/-- The Player that lets go is IDLE without a slot (R46). -/
theorem State.letGo_player (s : State) :
    s.letGo.player = { s.player with state := .idle, slot := none, rollPending := false, cueFlag := false } := by
  unfold State.letGo
  dsimp only
  split <;> simp

/-- EMERGENCY leaves the Player IDLE (R180). -/
theorem State.playerEmergency_idle (s : State) : s.playerEmergency.player.state = .idle := by
  unfold State.playerEmergency
  split
  · assumption
  · dsimp only
    split <;> simp [State.letGo_player]

/-! ### Cells of take memory -/

/-- The canonical form of a tail follows from that of the whole. -/
theorem cellsWf_tail {x : Host.Cell} {rest : List Host.Cell} (h : cellsWf (x :: rest) = true) :
    cellsWf rest = true := by
  cases rest with
  | nil => rfl
  | cons y tl => obtain ⟨a, b⟩ := x; obtain ⟨c, d⟩ := y; simp [cellsWf] at h ⊢; exact h.2

/-- In canonical form every address lies above the first. -/
theorem cellsWf_above {a : Nat} {b : Byte} {rest : List Host.Cell} (h : cellsWf ((a, b) :: rest) = true) :
    ∀ y ∈ rest, a < y.1 := by
  induction rest generalizing a b with
  | nil => simp
  | cons y tl ih =>
    obtain ⟨c, d⟩ := y
    simp only [cellsWf, Bool.and_eq_true, decide_eq_true_eq] at h
    intro z hz
    rcases List.mem_cons.mp hz with rfl | hz
    · exact h.1.2
    · exact Nat.lt_trans h.1.2 (ih h.2 z hz)

/-- An address below every listed one reads as 0. -/
theorem readCell_above {rest : List Host.Cell} {a : Nat} (h : ∀ y ∈ rest, a < y.1) : readCell rest a = 0 := by
  induction rest with
  | nil => rfl
  | cons y tl ih =>
    obtain ⟨c, d⟩ := y
    have hc := h (c, d) (by simp)
    have : c ≠ a := by simp only at hc; omega
    simp [readCell, this, ih fun z hz => h z (by simp [hz])]

/-- A cell put before cells above it, with a byte that is not 0, keeps the form. -/
theorem cellsWf_cons {a : Nat} {b : Byte} {rest : List Host.Cell} (hb : b ≠ 0) (ha : ∀ y ∈ rest, a < y.1)
    (h : cellsWf rest = true) : cellsWf ((a, b) :: rest) = true := by
  cases rest with
  | nil => simpa [cellsWf] using hb
  | cons y tl =>
    obtain ⟨c, d⟩ := y
    have hc := ha (c, d) (by simp)
    simp [cellsWf, h]
    exact ⟨hb, hc⟩

/-- The addresses after a write: those before it, and the one written. -/
theorem mem_writeCell {cells : List Host.Cell} {a : Nat} {b : Byte} {y : Host.Cell}
    (h : y ∈ writeCell cells a b) : y ∈ cells ∨ y = (a, b) := by
  induction cells with
  | nil => simp only [writeCell] at h; split at h <;> simp_all
  | cons x tl ih =>
    obtain ⟨c, d⟩ := x
    simp only [writeCell] at h
    split at h
    · split at h <;> simp_all; tauto
    · split at h
      · split at h <;> simp_all; tauto
      · rcases List.mem_cons.mp h with rfl | h
        · simp
        · rcases ih h with h | h <;> simp [h]

/-- A write keeps the canonical form. -/
theorem cellsWf_writeCell {cells : List Host.Cell} (a : Nat) (b : Byte) (h : cellsWf cells = true) :
    cellsWf (writeCell cells a b) = true := by
  induction cells with
  | nil => by_cases hb : b = 0#8 <;> simp [writeCell, cellsWf, hb]
  | cons x tl ih =>
    obtain ⟨c, d⟩ := x
    have above := cellsWf_above h
    have hd : d ≠ 0 := by cases tl <;> simp_all [cellsWf]
    simp only [writeCell]
    split
    · split
      · exact h
      · refine cellsWf_cons ‹_› (fun y hy => ?_) h
        rcases List.mem_cons.mp hy with rfl | hy
        · assumption
        · exact Nat.lt_trans ‹a < c› (above y hy)
    · split
      · split
        · exact cellsWf_tail h
        · subst a; exact cellsWf_cons ‹_› above (cellsWf_tail h)
      · refine cellsWf_cons hd (fun y hy => ?_) (ih (cellsWf_tail h))
        rcases mem_writeCell hy with hy | rfl
        · exact above y hy
        · simp only; omega

/-- What a write leaves at an address: the byte at its own, what was there at every other. -/
theorem readCell_writeCell {cells : List Host.Cell} (a x : Nat) (b : Byte) (h : cellsWf cells = true) :
    readCell (writeCell cells a b) x = if x = a then b else readCell cells x := by
  induction cells with
  | nil =>
    by_cases hx : x = a
    · by_cases hb : b = 0#8 <;> simp [writeCell, readCell, hb, hx]
    · have : a ≠ x := fun e => hx e.symm
      by_cases hb : b = 0#8 <;> simp [writeCell, readCell, hb, hx, this]
  | cons y tl ih =>
    obtain ⟨c, d⟩ := y
    have above := cellsWf_above h
    simp only [writeCell]
    split
    · have low : readCell ((c, d) :: tl) a = 0 :=
        readCell_above fun y hy => by
          rcases List.mem_cons.mp hy with rfl | hy
          · assumption
          · exact Nat.lt_trans ‹a < c› (above y hy)
      split
      · by_cases hx : x = a
        · subst hx; simp_all
        · simp [hx]
      · by_cases hx : x = a
        · simp [readCell, hx]
        · have : a ≠ x := fun h => hx h.symm
          simp [readCell, hx, this]
    · split
      · subst a
        have low : readCell tl c = 0 := readCell_above above
        split
        · by_cases hx : x = c
          · subst hx; simp_all
          · have : c ≠ x := fun h => hx h.symm
            simp [readCell, hx, this]
        · by_cases hx : x = c
          · simp [readCell, hx]
          · have : c ≠ x := fun h => hx h.symm
            simp [readCell, hx, this]
      · by_cases hc : c = x
        · subst hc
          have : c ≠ a := fun h => ‹¬a = c› h.symm
          simp [readCell, this]
        · simp [readCell, hc, ih (cellsWf_tail h)]

/-- A stored stream keeps the canonical form. -/
theorem TakeMemory.cellsWf_writeStream (m : TakeMemory) (sl : Slot) (offset : Nat) (bytes : List Byte)
    (h : cellsWf m.cells = true) : cellsWf (m.writeStream sl offset bytes).cells = true := by
  induction bytes generalizing m offset with
  | nil => exact h
  | cons b bs ih => exact ih _ _ (cellsWf_writeCell _ _ h)

/-- A stored stream touches the bytes alone. -/
theorem TakeMemory.writeStream_frame (m : TakeMemory) (sl : Slot) (offset : Nat) (bytes : List Byte) :
    m.writeStream sl offset bytes = { m with cells := (m.writeStream sl offset bytes).cells } := by
  induction bytes generalizing m offset with
  | nil => rfl
  | cons b bs ih => exact ih _ _

/-- A stored stream leaves every address it does not name. -/
theorem TakeMemory.readCell_writeStream_other (m : TakeMemory) (sl : Slot) (offset : Nat) (bytes : List Byte)
    (a : Nat) (h : cellsWf m.cells = true) (ha : ∀ j, j < bytes.length → a ≠ sl.address (offset + j)) :
    readCell (m.writeStream sl offset bytes).cells a = readCell m.cells a := by
  induction bytes generalizing m offset with
  | nil => rfl
  | cons b bs ih =>
    have h0 : a ≠ sl.address offset := by simpa using ha 0 (by simp)
    refine (ih _ (offset + 1) (cellsWf_writeCell _ _ h) fun j hj => ?_).trans ?_
    · have := ha (j + 1) (by simpa using hj)
      rwa [show offset + 1 + j = offset + (j + 1) by omega]
    · simp [readCell_writeCell _ _ _ h, h0]

/-- Take memory after power-on reset is in canonical form. -/
theorem cellsWf_reset : cellsWf State.reset.mem.cells = true := rfl

/-! ### Take blocks (R148) -/

/-- Giving a slot's blocks back empties the slot, and changes no other. -/
theorem TakeMemory.giveBack_slots (i j : Fin 32) (m : TakeMemory) :
    (m.giveBack i).slots[j] = if j = i then Slot.empty else m.slots[j] := by
  by_cases h : j = i
  · subst h; simp [TakeMemory.giveBack]
  · have : i.val ≠ j.val := fun e => h (Fin.ext e.symm)
    simp [TakeMemory.giveBack, h, Vector.getElem_set_ne _ _ this]

end Sys2Proof.Machine
end

