-- ==== Sys2Proof/Laws/Link.lean ====
section
/-! SUPPORT. The end of an event at the console link: what settling, answering and reporting leave, in the words of
Safety.lean. -/

namespace Sys2Proof.Machine

/-! ### Settling -/

/-- An event that raised no report leaves the rest of the state, and an idle line begins the oldest message. -/
theorem State.settle_of_quiet (s : State) (h : s.link.raised = []) :
    s.settle = { s with link := s.link.startSending } := by
  have same : { s.link with raised := [] } = s.link := by rw [← h]
  have : s.flushReports = s := by
    unfold State.flushReports
    dsimp only
    rw [h, same]
    rfl
  simp only [State.settle, this]

/-- A line at rest stays at rest. -/
theorem Link.startSending_of_rest (l : Link) (h : l.sending = none → l.out = []) : l.startSending = l := by
  unfold Link.startSending
  split <;> simp_all

/-- An event that leaves the link alone leaves a settled state. -/
theorem State.settle_of_settled (s : State) (h : Settled s) : s.settle = s := by
  rw [State.settle_of_quiet s h.1, Link.startSending_of_rest s.link h.2]

/-- A request that the Link hands on is answered by its handler. -/
theorem State.accept_of_serving (s : State) (kind tag : Byte) (f : State → Served) (h : Serving s) :
    s.accept kind tag f = ((f s).state.queueReply kind tag (f s).result (f s).fields).settle := by
  obtain ⟨-, free, mode⟩ := h
  simp [State.accept, free, State.serveBy, mode]

/-- A request whose handler raises no report leaves the handler's state, answered. -/
theorem State.accept_of_quiet (s : State) (kind tag : Byte) (f : State → Served) (h : Serving s)
    (quiet : (f s).state.link.raised = []) :
    s.accept kind tag f =
      { (f s).state with link := (f s).state.link.answered kind tag (f s).result (f s).fields } := by
  rw [State.accept_of_serving s kind tag f h, State.settle_of_quiet _ (by simpa using quiet)]
  rfl

/-! ### The output queue -/

/-- Queueing a report changes the output side of the Link alone. -/
theorem Link.queueReport_input (l : Link) (k : ReportKind) (f : List Field) :
    l.sameInput (l.queueReport k f) ∧ (l.queueReport k f).raised = l.raised ∧
      (l.queueReport k f).sending = l.sending := by
  unfold Link.queueReport
  repeat' split
  all_goals simp [Link.sameInput]

/-- Beginning a message changes the output side of the Link alone. -/
theorem Link.startSending_input (l : Link) : l.sameInput l.startSending ∧ l.startSending.raised = l.raised := by
  unfold Link.startSending
  split <;> simp [Link.sameInput]

/-- Beginning a message loses none. -/
theorem Link.carries_startSending (l : Link) (m : Message) (h : l.carries m) : l.startSending.carries m := by
  unfold Link.startSending
  split
  · next m' rest hs ho =>
    rcases h with h | h | h
    · rcases List.mem_cons.mp (ho ▸ h) with rfl | h
      · exact .inr (.inl rfl)
      · exact .inl h
    · simp [hs] at h
    · exact .inr (.inr h)
  · exact h

/-- An enabled report that is queued has its place (R187). -/
theorem Link.carries_queueReport (l : Link) (k : ReportKind) (f : List Field) (h : l.mask[k.index] = true) :
    (l.queueReport k f).carries (.report k f) := by
  unfold Link.queueReport
  simp only [h, Bool.not_true, Bool.false_eq_true, if_false]
  split
  · next he =>
    obtain ⟨m, hm, hk⟩ := List.any_eq_true.mp he
    exact .inl (List.mem_map.mpr ⟨m, hm, by simp [hk]⟩)
  · split
    · exact .inr (.inr (by simp))
    · exact .inl (by simp)

/-- Queueing a report keeps every message of another kind in its place (R187). -/
theorem Link.carries_queueReport_other (l : Link) (k : ReportKind) (f : List Field) (m : Message)
    (hm : m.isReportOf k = false) (h : l.carries m) : (l.queueReport k f).carries m := by
  unfold Link.queueReport
  split
  · exact h
  · split
    · rcases h with h | h | h
      · exact .inl (List.mem_map.mpr ⟨m, h, by simp [hm]⟩)
      · exact .inr (.inl h)
      · exact .inr (.inr h)
    · split
      · rcases h with h | h | h
        · exact .inl h
        · exact .inr (.inl h)
        · exact .inr (.inr (by simp [h, hm]))
      · rcases h with h | h | h
        · exact .inl (by simp [h])
        · exact .inr (.inl h)
        · exact .inr (.inr h)

/-! ### The reports of an event -/

/-- A report's content depends on the Link through the mode alone. -/
theorem Raise.fields_congr (r : Raise) (s : State) (l : Link) (h : l.mode = s.link.mode) :
    r.fields { s with link := l } = r.fields s := by
  cases r <;> simp [Raise.fields, frameReport, safetyReport, takeReport, passReport, crewReport, timebaseReport,
    faultReport, saveReport, h]

/-- The queueing of some reports with content read off a state. -/
def Link.queueAll (s : State) (raised : List Raise) (l : Link) : Link :=
  raised.foldl (fun l r => l.queueReport r.kind (r.fields s)) l

/-- Queueing reports changes the output side of the Link alone. -/
theorem Link.queueAll_input (s : State) (raised : List Raise) (l : Link) :
    l.sameInput (l.queueAll s raised) ∧ (l.queueAll s raised).raised = l.raised := by
  induction raised generalizing l with
  | nil => simp [Link.queueAll, Link.sameInput]
  | cons r rest ih =>
    have a := Link.queueReport_input l r.kind (r.fields s)
    have b := ih (l.queueReport r.kind (r.fields s))
    simp only [Link.queueAll, List.foldl_cons, Link.sameInput] at *
    simp_all

/-- Queueing reports keeps a message that is of none of their kinds. -/
theorem Link.carries_queueAll (s : State) (raised : List Raise) (l : Link) (m : Message)
    (hm : ∀ r ∈ raised, m.isReportOf r.kind = false) (h : l.carries m) : (l.queueAll s raised).carries m := by
  induction raised generalizing l with
  | nil => exact h
  | cons r rest ih =>
    exact ih _ (fun r hr => hm r (by simp [hr]))
      (Link.carries_queueReport_other l r.kind (r.fields s) m (hm r (by simp)) h)

/-- Settling changes the output side of the Link alone, and leaves no report raised. -/
theorem State.settle_input (s : State) : s.link.sameInput s.settle.link ∧ s.settle.link.raised = [] := by
  have a := Link.queueAll_input s s.link.raised { s.link with raised := [] }
  have b := Link.startSending_input (({ s.link with raised := [] } : Link).queueAll s s.link.raised)
  have e : s.settle.link = (({ s.link with raised := [] } : Link).queueAll s s.link.raised).startSending := rfl
  rw [e]
  simp only [Link.sameInput] at *
  simp_all

/-- A reply that is pending when an event settles keeps its place. -/
theorem State.settle_carries (s : State) (m : Message) (hm : ∀ r ∈ s.link.raised, m.isReportOf r.kind = false)
    (h : s.link.carries m) : s.settle.link.carries m :=
  Link.carries_startSending _ m
    (Link.carries_queueAll s s.link.raised { s.link with raised := [] } m hm h)

/-- The last report that an event raises of a kind is reported when it settles (R187). -/
theorem State.settle_reports (s : State) (before after : List Raise) (r : Raise)
    (h : s.link.raised = before ++ r :: after) (last : ∀ q ∈ after, q.kind ≠ r.kind) : s.settle.reports r := by
  intro hm
  have inp := State.settle_input s
  have same : r.fields s.settle = r.fields s := by
    have e : s.settle = { s with link := s.settle.link } := rfl
    rw [e, Raise.fields_congr r s s.settle.link inp.1.2.2.2.2.2.2.2]
  rw [same]
  refine Link.carries_startSending _ _ ?_
  change ((({ s.link with raised := [] } : Link).queueAll s s.link.raised)).carries _
  rw [h, Link.queueAll, List.foldl_append, List.foldl_cons]
  refine Link.carries_queueAll s after _ _ (fun q hq => ?_) ?_
  · simpa [Message.isReportOf] using fun e => last q hq e.symm
  · refine Link.carries_queueReport _ _ _ ?_
    have a := (Link.queueAll_input s before { s.link with raised := [] }).1.2.2.1
    have m : s.settle.link.mask = s.link.mask := inp.1.2.2.1
    rw [Link.queueAll] at a
    rw [a]
    rwa [m] at hm

end Sys2Proof.Machine
end

