-- ==== Sys2Proof/Tests/Slice0.lean ====
section
/-! SUPPORT. Tests: ill-formed commands that WellFormed refuses, worked examples of the spec's own tables, and for
each obligation with hypotheses a state and operands that meet them. -/

open Sys2Proof Sys2Proof.Machine

namespace Sys2Proof.Tests

set_option Elab.async false

/-! ### States the tests start from -/

/-- Samples of a tick: the loop closed, the enabling switch held, every guard input closed. -/
def calm : TickInputs := ⟨false, false, true, Vector.replicate 8 false, false, false⟩

/-- A present channel, ACTIVE at 0, whose read is outstanding. -/
def liveChannel : Channel :=
  { Channel.initial with
    cfg := { ChannelConfig.default with present := true }, state := .active, ready := true, readPending := true
    unitValue := some 0, unitFresh := true }

/-- A take of two frames of TRAVEL, in block 0. -/
def readyTake : Slot :=
  { Slot.empty with
    state := .ready, name := [0x41#8], set := [0], rateCode := 2, tpf := 20, frames := 2, chain := [0], play := true
    erase := true }

def takeMemory (sl : Slot) : TakeMemory :=
  { TakeMemory.initial with free := List.range' 1 1023, slots := TakeMemory.initial.slots.set 0 sl }

/-- OPERATE at 25 frames per second and 500 Hz, in RUN at full scale, with ten live channels and one take. -/
def live : State :=
  { State.reset with
    tb := { TimeBase.initial with started := true, tickIndex := 3, frameEnd := nominalPeriod 2, lastTick := 737280 }
    chans := Vector.replicate 10 liveChannel
    pose := { PoseUnit.initial with geometrySet := true }
    crew := { CrewTracker.initial with warmUp := false }
    gov := { Governor.initial with
      scale := 1024, marginsReady := true, guardSample := Vector.replicate 8 false
      guardState := Vector.replicate 8 false }
    stop := { StopSupervisor.initial with
      causes := ⟨false, false, false, false, false, false⟩, state := .run, enableSample := true, enableHeld := true
      sampled := true }
    mem := takeMemory readyTake
    link := { Link.initial with mode := .operate }
    store := ⟨true, false, none, none⟩ }

/-- The same at the last tick of a frame: the next tick is a boundary. -/
def atBoundary : State := { live with tb := { live.tb with tickIndex := 19 } }

def inSetup : State := { live with link := { live.link with mode := .setup } }

/-- A state in which a change has been made to the Time Base. -/
def withTb (f : TimeBase → TimeBase) (s : State) : State := { s with tb := f s.tb }

def withChan (i : Fin 10) (f : Channel → Channel) (s : State) : State := { s with chans := s.chans.set i (f s.chans[i]) }

/-- The state a command leaves. -/
def after (c : Instr) (s : State) : State :=
  match exec c s with
  | .next t => t
  | _ => s

/-- A request served in some states gives a result. -/
def resultIs (v : Served) (r : Result) : Bool := v.result == r

/-- An encoder answer with its check byte (12.3). -/
def encoderBytes (position : Int) (status : Byte) : Vector Byte 6 :=
  let b := intBytes 4 position ++ [status]
  Vector.ofFn fun i => (b ++ [crc8 b]).getD i.val 0

/-! ### WellFormed refuses what does not fit its width -/

theorem test_wf_timebase : Instr.wf (.setTimebase 0 (some ⟨256, 0, 20, 50⟩)) = false := by decide
theorem test_wf_channel_index :
    Instr.wf (.configureChannel 0 (some (256, ChannelConfig.default.args))) = false := by decide
theorem test_wf_channel :
    Instr.wf (.configureChannel 0 (some (0, { ChannelConfig.default.args with softMax := 2147483648 }))) = false := by
  decide
theorem test_wf_byte : Instr.wf (.getChannel 0 (some 256)) = false := by decide
theorem test_wf_mask : Instr.wf (.disableChannels 0 (some 65536)) = false := by decide
theorem test_wf_route : Instr.wf (.setRoute 0 (some (0, .other 4))) = false := by decide
theorem test_wf_router : Instr.wf (.setRouteRouterForm 0 (some (65536, 0))) = false := by decide
theorem test_wf_samples : Instr.wf (.controlSample 0 (some [(0, 32768)])) = false := by decide
theorem test_wf_geometry : Instr.wf (.setGeometry 0 (some ⟨0, 0, 0, 0, -2147483649⟩)) = false := by decide
theorem test_wf_locator : Instr.wf (.setLocator 0 (some ⟨0, 1, 256, 0, 600⟩)) = false := by decide
theorem test_wf_tag : Instr.wf (.setTag 0 (some ⟨65536, 0, 100⟩)) = false := by decide
theorem test_wf_tracker : Instr.wf (.setTagTrackerForm 0 (some ⟨256, 3, 50, 80, 3000, 500⟩)) = false := by decide
theorem test_wf_part : Instr.wf (.getCrew 0 (some ⟨0, 65536, 0⟩)) = false := by decide
theorem test_wf_zone :
    Instr.wf (.setZone 0 (some (0, ⟨0, 0, 0, 0, 0, 0, 0, 256, 0⟩))) = false := by decide
theorem test_wf_governor : Instr.wf (.setGovernor 0 (some ⟨1500, 3000, 1000, 65536, 8, 0⟩)) = false := by decide
theorem test_wf_safety_test : Instr.wf (.startSafetyTest 0 (some ⟨2147483648, 0, 10⟩)) = false := by decide
theorem test_wf_lens_table : Instr.wf (.loadLensTable 0 (some ⟨7, []⟩)) = false := by decide
theorem test_wf_focus : Instr.wf (.setFocusTarget 0 (some (.other 2))) = false := by decide
theorem test_wf_record : Instr.wf (.record 0 (some ⟨1, [], 65536, 0⟩)) = false := by decide
theorem test_wf_create : Instr.wf (.createTake 0 (some ⟨1, [], 1, 2, 20, 65536⟩)) = false := by decide
theorem test_wf_write : Instr.wf (.writeTakeData 0 (some ⟨1, 4294967296, 1, [0]⟩)) = false := by decide
theorem test_wf_read : Instr.wf (.readTakeData 0 (some ⟨1, 0, 256⟩)) = false := by decide
theorem test_wf_access : Instr.wf (.setTakeAccess 0 (some ⟨256, 0⟩)) = false := by decide
theorem test_wf_cue : Instr.wf (.cue 0 (some ⟨1, some ⟨65536, 1, 1⟩⟩)) = false := by decide
theorem test_wf_reports : Instr.wf (.setReports 0 (some ⟨256, 0⟩)) = false := by decide
theorem test_wf_length_discard : Instr.wf (.frameLengthDiscard 248#8) = false := by decide

/-- The table gives no row any bits, so no word spells a command. -/
theorem test_no_word_spells_a_command : decodeTableWord 8 0 = none ∧ State.reset.withFetchWord 8 0 = State.reset := by
  decide +kernel

/-! ### Check codes and formats (chapter 12) -/

/-- The check values of the three polynomials over "123456789", computed outside the model. -/
theorem test_crc_check_values :
    crc16 [0x31#8, 0x32#8, 0x33#8, 0x34#8, 0x35#8, 0x36#8, 0x37#8, 0x38#8, 0x39#8] = 0x29B1#16 ∧
    crc8 [0x31#8, 0x32#8, 0x33#8, 0x34#8, 0x35#8, 0x36#8, 0x37#8, 0x38#8, 0x39#8] = 0xB4#8 ∧
    crc32 [0x31#8, 0x32#8, 0x33#8, 0x34#8, 0x35#8, 0x36#8, 0x37#8, 0x38#8, 0x39#8] = 0xCBF43926#32 := by
  decide +kernel

/-- R198: least significant byte first, signed numbers in two's complement. -/
theorem test_byte_order :
    leBytes 4 0x01020304 = [0x04#8, 0x03#8, 0x02#8, 0x01#8] ∧ intBytes 2 (-2) = [0xFE#8, 0xFF#8] ∧
    toSigned 2 0xFFFE = -2 := by decide +kernel

/-! ### Worked examples of the spec -/

/-- 1.2 (R3): nominal tick rates and refused settings; R27: 200 ms in steps; R117: the discrepancy limit. -/
theorem test_tick_rates :
    nominalTickRate 6 20 = 1199 ∧ nominalTickRate 0 17 = 408 ∧ tickRateOk 3 13 = false ∧ tickRateOk 7 34 = false ∧
    msToTicks 200 500 = 100 ∧ msToTicks 200 1199 = 240 ∧ msToTicks 100 500 = 50 := by decide

/-- A millisecond in the model's instants. -/
def msec (n : Nat) : Nat := n * 122880

/-- 1.6, the relock with a slip: the pulse at 189 ms in frame 8004. -/
def relocking : TimeBase :=
  { TimeBase.initial with
    source := .reference, lock := .acquiring, started := true, frameNumber := 8004, tickIndex := 14
    frameStart := msec 160, frameEnd := msec 200, lastTick := msec 188, history := #v[false, true, true, true]
    lastGoodPulse := some (msec 149), phaseEstablished := true, expectation := some (msec 189) }

theorem test_relock_with_slip :
    let t := (relocking.pulse (msec 189))
    t.lock = .locked ∧ t.frameEnd = msec 229 ∧ t.frameTicks = 35 ∧ t.frameStep = 2 ∧ t.slipCount = 1 := by
  decide +kernel

/-- R18: unit values 1998 and −51. -/
theorem test_unit_values :
    let c (p m : Int) := { Channel.initial with
      encoder := p, cfg := { ChannelConfig.default with multiplier := m } }
    ((c 1000000 131).publishUnit true).unitValue = some 1998 ∧
    ((c (-101) 32768).publishUnit true).unitValue = some (-51) := by decide

/-- 2.3, steps 4 and 5 of the dropped answers: one extrapolation, then the position held and ENCODER_LOST. -/
theorem test_dropped_answers :
    let c := { liveChannel with encoder := 5008, demandStep := 5, encoderErrors := 7 }
    let d := c.read .windowClosed
    let e := { d with demandStep := 5 }.read .windowClosed
    (d.encoder, d.badRun, d.encoderErrors) = (5013, 1, 8) ∧ (e.encoder, e.badRun, e.encoderErrors) = (5013, 2, 9) := by
  decide

/-- 2.5: the stop ramp of TRAVEL at stop decel 512, from p = 25,600 and v = 1280. -/
theorem test_stop_ramp :
    let inp := live.stepInputs 0 ⟨true, false⟩
    let c := { liveChannel with
      cfg := { liveChannel.cfg with stopDecel := 512 }, state := .stopping, phase := .ramp, p := 25600, v := 1280 }
    let c1 := c.stepRamp inp
    let c2 := c1.stepRamp inp
    let c3 := c2.stepRamp inp
    (c1.v, c1.p) = (768, 26368) ∧ (c2.v, c2.p) = (256, 26624) ∧ (c3.v, c3.p, c3.phase, c3.brakeTimer) = (0, 26624, .engage, 100) := by
  decide +kernel

/-- 3.4, starting a rate move: C0 = 16384 at vmax 2560 gives 1280, and −16384 gives −1280; at g = 374 it is 467. -/
theorem test_rate_target :
    rateTarget ChannelConfig.default 400 1024 16384 = 1280 ∧ rateTarget ChannelConfig.default 400 1024 (-16384) = -1280 ∧
    rateTarget ChannelConfig.default 400 374 16384 = 467 ∧ rateTarget ChannelConfig.default 400 1024 400 = 0 := by decide

/-- 3.4, reaching a preset at 5 counts: the four steps. -/
theorem test_reaching_a_preset :
    let inp := { live.stepInputs 5 ⟨true, false⟩ with active := .own (.preset 5 none) }
    let m1 := inp.move ChannelConfig.default false 0 0
    let m2 := inp.move ChannelConfig.default false m1.p m1.v
    let m3 := inp.move ChannelConfig.default false m2.p m2.v
    let m4 := inp.move ChannelConfig.default false m3.p m3.v
    (m1.p, m1.v) = (256, 256) ∧ (m2.p, m2.v) = (768, 512) ∧ (m3.p, m3.v, m3.atTarget) = (1280, 512, false) ∧
    (m4.p, m4.v, m4.atTarget) = (1280, 0, true) := by decide +kernel

/-- 3.4, braking for a soft limit at 20 counts. -/
theorem test_braking_for_a_limit :
    let cfg := { ChannelConfig.default with softMax := 20 }
    let m1 := moveByAim cfg 256 (aimVelocity cfg 3840 1280) 3840 1280
    let m2 := moveByAim cfg 256 (aimVelocity cfg m1.p 1280) m1.p m1.v
    (m1.p, m1.v, m1.limit) = (4864, 1024, true) ∧ (m2.p, m2.v, m2.limit) = (5120, 0, true) := by decide +kernel

/-- 3.4, a take step beyond vmax. -/
theorem test_take_step :
    let m := moveByTake ChannelConfig.default 118 26880
    (m.p, m.overspeed, m.limit) = (29440, true, true) ∧
    (moveByTake ChannelConfig.default 125 29440).overspeed = false := by decide

/-- 4.3: the quarter sine and the halves of R69. -/
theorem test_sine :
    quarterSine 3000 = 9294 ∧ quarterSine 13384 = 31421 ∧ sine (-8192) = -23170 ∧ cosine 16384 = 0 ∧
    sine 49152 = -32767 ∧ roundHalfAway 131068000 32768 = 4000 ∧ roundHalfAway (-49152) 32768 = -2 ∧
    roundHalfAway 49152 32768 = 2 := by decide +kernel

/-- 4.4: the two worked poses. -/
theorem test_poses :
    headPose ⟨0, 0, 1800, 3000, 2200⟩ #v[2000, 8192, 0, 1000] = ⟨4828, 2828, 1800⟩ ∧
    headPose ⟨0, 0, 1800, 3000, 2200⟩ #v[2000, 8192, 3000, 1000] = ⟨4712, 2712, 2935⟩ ∧
    headSpeed 500 ⟨4826, 2828, 1800⟩ ⟨4828, 2828, 1800⟩ = 1000 := by decide +kernel

def crewOf (tagId : Nat) (state : CrewState) (x y radius base : Int) (unseen : Nat) : CrewEntry :=
  ⟨tagId, .talent, x, y, base, radius, 9, some 0, 0, 0, unseen, state⟩

/-- 5.4, the round with duplicates, scaled down to the tags that matter: which sightings are accepted, and the order
of the new tags. -/
theorem test_accepted_sightings :
    acceptedSightings 4
      [⟨17, 7010, 3990, 9, 0, 0⟩, ⟨51, 1200, 800, 3, 0, 1⟩, ⟨17, 7000, 4000, 12, 1, 0⟩, ⟨88, 2000, -1500, 6, 1, 1⟩,
        ⟨40, 5500, 6000, 6, 1, 2⟩, ⟨17, 6995, 4004, 12, 3, 0⟩, ⟨93, -800, 2500, 7, 3, 1⟩] =
      [⟨88, 2000, -1500, 6, 1, 1⟩, ⟨40, 5500, 6000, 6, 1, 2⟩, ⟨17, 6995, 4004, 12, 3, 0⟩,
        ⟨93, -800, 2500, 7, 3, 1⟩] := by decide

/-- 5.4: radii of an unseen entry at frames unseen 3, 35 and 50. -/
theorem test_unseen_radii :
    let p : TrackerParams := ⟨4, 3, 50, 80, 3000, 500⟩
    let e (n : Nat) (r : Int) := (crewOf 1 .stale 0 0 r 400 n).missed p
    ((e 2 400).radius, (e 2 400).state) = (480, .stale) ∧ ((e 34 2960).radius, (e 34 2960).state) = (3000, .stale) ∧
    ((e 49 3000).radius, (e 49 3000).state) = (3000, .lost) := by decide

/-- 6.4: the crew entry in the slow band, and a head over a zone. -/
theorem test_governor_figures :
    brakingDistance 1000 1000 = 500 ∧ brakingDistance 250 1000 = 32 ∧ planDistance 3172 1672 = 3496 ∧
    crewMargin ⟨4828, 2828, 1800⟩ 2200 1500 (crewOf 1 .tracked 8000 4500 400 400 0) = 1596 ∧
    itemScale ⟨1500, 3000, 1000, 64, 8, false⟩ 1096 = 374 ∧ itemScale ⟨1500, 3000, 1000, 64, 8, false⟩ 65 = 64 ∧
    itemScale ⟨1500, 3000, 1000, 64, 8, false⟩ 0 = 0 ∧
    zoneMargin ⟨0, 0, 100⟩ ⟨.keepOut, -10, 10, -10, 10, 100, 0, .always⟩ = 0 := by decide +kernel

/-- 7.3, the sticking contact: one open sample opens a channel, and two closed ones close it. -/
theorem test_estop_debounce :
    let opened := (EstopChannel.mk false false).sample false true
    opened.isOpen = true ∧ (opened.sample false false).isOpen = true ∧
    ((opened.sample false false).sample false false).isOpen = false := by decide

/-- 7.3: the timer raises DISCREPANCY at the 51st tick after it starts, not at the 50th. -/
theorem test_discrepancy_timer :
    timerExceeds 50 (nextDiscTimer true (some 49)) = false ∧ timerExceeds 50 (nextDiscTimer true (some 50)) = true := by
  decide

/-- 8.1: mapping through a falling table. -/
theorem test_falling_table :
    let iris : List LensPoint := [⟨0, 1600⟩, ⟨8000, 280⟩]
    forwardMap iris 3001 = 1105 ∧ forwardMap iris 100 = 1584 ∧ forwardMap iris 9000 = 280 ∧
    inverseMap iris 1000 = (3636, false) ∧ inverseMap iris 250 = (8000, true) ∧ inverseMap iris 1700 = (0, true) := by
  decide

def focusTable : List LensPoint := [⟨0, 600⟩, ⟨4000, 1000⟩, ⟨9000, 2000⟩, ⟨14000, 5000⟩, ⟨16000, 20000⟩]

/-- 8.4: following a presenter. -/
theorem test_following_a_presenter :
    rawDistance ⟨4828, 2828, 1800⟩ ⟨7000, 4000, 1600⟩ = 2476 ∧ inverseMap focusTable 2476 = (9793, false) ∧
    rawDistance ⟨4828, 2828, 1800⟩ ⟨6000, 3500, 1600⟩ = 1365 ∧ inverseMap focusTable 1365 = (5825, false) ∧
    followToward default focusTable 476 = ⟨.following, 0, some 600, false, true⟩ := by decide +kernel

/-- 9.1, 9.3: blocks that takes need, and a full block. -/
theorem test_blocks_needed :
    blocksNeeded 2 300 = 4 ∧ blocksNeeded 2 200 = 3 ∧ blocksNeeded 10 23 = 1 ∧ blocksNeeded 10 24 = 2 ∧
    { readyTake with set := List.finRange 10, frames := 23 }.blockFull = true := by decide

/-- 10.7, the slowdown: ticks 801 and 2120, and the lag in frames. -/
theorem test_slowdown :
    let p (clock rate ticks lag : Nat) : Player :=
      { Player.initial with clock := clock, rate := rate, ticks := ticks, lag := lag }
    let a := (p 819200 1024 800 0).advance 374 2027520
    let b := (p 2026654 1024 2119 143202).advance 1024 2027520
    (a.rate, a.clock, a.lag) = (1008, 820208, 16) ∧ (b.clock, b.lag, b.ticks) = (2027520, 143360, 2120) ∧
    lagInFrames 143360 20 = 700 ∧ endResult 143360 ⟨true, false, false, false, false, false, false⟩ = .paceLost := by
  decide

/-- 11.1: a damaged frame with another inside it: one error, and the inner request joins the queue. -/
theorem test_frame_inside_a_damaged_one :
    let inner := consoleFrame 0x58#8 7#8 []
    let l := Link.initial.receive ([sync, 2#8] ++ inner)
    l.linkErrors = 1 ∧ l.requests = [⟨0x58#8, 7#8, []⟩] ∧ l.rx = [] := by decide +kernel

/-! ### Witnesses: the reset, the laws, the link -/

def closedPass : PassRecord :=
  ⟨0, 5, 0, 0, 0, 0, 16, 8, .opening 1024, none⟩

/-- The Player at tick 3 of a pass of the take in slot 1. -/
def playing : State :=
  { live with
    player := { Player.initial with
      state := .playing, slot := some 0, clock := 3072, rate := 1024, ticks := 3, pass := some closedPass }
    router := { Router.initial with routes := Router.initial.routes.set 0 ⟨.hold, .take, false⟩ } }

/-- A slot that the Recorder holds, with so many frames. -/
def recordingTake (frames : Nat) : Slot :=
  { readyTake with state := .recording, frames := frames, play := false, erase := false }

/-- The Recorder at work on slot 1. -/
def recording (st : RecorderState) (frames : Nat) (s : State) : State :=
  { s with mem := takeMemory (recordingTake frames), recorder := ⟨st, some 0, .now, 0⟩ }

theorem test_witness_RestartKeepsWhatItMust :
    Serving live ∧ live.player.state ≠ .playing ∧ live.recorder.state = .idle ∧ live.link.sending = none ∧
    Serving (recording .armed 0 live) ∧ (recording .armed 0 live).recorder.slot = some 0 ∧
    Serving (recording .recording 2 live) ∧ 2 ≤ (recording .recording 2 live).mem.slots[0].frames ∧
    Serving (recording .recording 1 live) ∧ ¬2 ≤ (recording .recording 1 live).mem.slots[0].frames ∧
    Serving playing ∧ playing.player.pass = some closedPass ∧
    { live.store with save := some ⟨[], 9⟩ }.save = some ⟨[], 9⟩ ∧
    Serving { live with link := { live.link with sending := some (.reply 0x5E#8 1#8 .ok []) } } := by decide +kernel

/-- The first m blocks in chains, and the rest free in order. -/
theorem test_block_law (s : State) (m n : Nat) (hc : s.mem.slots.toList.flatMap Slot.chain = List.range m)
    (hf : s.mem.free = List.range' m n) (hn : m + n = 1024)
    (he : ∀ i : Fin 32, s.mem.slots[i].state = .empty → s.mem.slots[i].chain = []) : BlockLaw s := by
  refine ⟨?_, he⟩
  rw [hc, hf, ← hn, List.range_eq_range', List.range_eq_range', ← List.range'_append_1 (s := 0) (m := m) (n := n),
    Nat.zero_add]
  exact List.perm_append_comm

theorem test_live_blocks : BlockLaw live :=
  test_block_law live 1 1023 (by decide +kernel) rfl rfl (by decide +kernel)

/-- The laws that the StepKeeps statements take, in a state with a pass running and a command waiting. -/
theorem test_witness_StepKeeps :
    ClockLaw playing ∧ EngineLaw playing ∧ CellsLaw playing ∧ DriveLaw playing ∧ RouteLaw playing ∧
    FollowLaw playing ∧ CrewLaw playing ∧ StopLaw playing ∧ QueueLaw playing ∧
    step { playing with pending := [.tick calm] } = .next (after (.tick calm) playing) := by
  refine ⟨?_, ?_, ?_, ?_, ?_, ?_, ?_, ?_, ?_, rfl⟩ <;> decide +kernel

theorem test_witness_StepKeepsMemoryLaws : EngineLaw live ∧ BlockLaw live ∧ CellsLaw live :=
  ⟨by decide +kernel, test_live_blocks, by decide +kernel⟩

/-- Settings away from the defaults: OPERATE, a route of every kind, a lens table. -/
def someSettings : Settings :=
  { live.settings with
    routes := #v[.rate 11, .position 0, .preset 2147483647 none, .hold, .hold, .hold, .hold, .hold, .follow, .hold]
    tables := #v[[], focusTable, []], directory := [⟨1, .crew, 100⟩, ⟨65534, .equipment, 3000⟩] }

theorem test_witness_ValidSettings :
    someSettings.Valid ∧ someSettings.mode ≠ .starting ∧
    Instr.wf (.setTimebase 0 (some ⟨255, 255, 255, 65535⟩)) = true := by
  have routes : ∀ i : Fin 10, someSettings.routes[i].Valid := by
    intro i
    match i with
    | 0 | 1 | 3 | 4 | 5 | 6 | 7 | 8 | 9 => trivial
    | 2 => exact ⟨by decide, fun v hv => by cases hv⟩
  refine ⟨⟨?_, ?_, ?_, ?_, ?_, routes, ?_, ?_, ?_, ?_, ?_, ?_, ?_, ?_, ?_, ?_, ?_, ?_, ?_, ?_, ?_, ?_⟩, ?_, ?_⟩ <;>
    decide +kernel

/-- FOCUS on FOLLOW with its table, two locators on two addresses, and a command other than a load's end in front. -/
theorem test_witness_TableAndAddressLaws :
    let s : State := { live with
      router := { live.router with routes := live.router.routes.set 8 ⟨.follow, .own .follow, false⟩ }
      lens := { live.lens with tables := live.lens.tables.set 1 focusTable
                               follow := ⟨.holding, 0, none, false, false⟩ }
      bus := { live.bus with locators := Vector.ofFn fun i => { Locator.initial i with configured := true } }
      pending := [.tick calm] }
    FollowLaw s ∧ FollowTableLaw s ∧ AddressLaw s ∧ ¬s.loadsNext := by
  refine ⟨by decide +kernel, by decide +kernel, by decide +kernel, ?_⟩
  rintro ⟨_, h⟩
  cases h

/-- The request queue full, and then every reply place in use. -/
def queueFull : State :=
  { live with link := { live.link with requests := List.replicate 8 ⟨0x58#8, 1#8, []⟩ } }

def repliesFull : State :=
  { queueFull with link := { queueFull.link with out := List.replicate 8 (.reply 0x58#8 1#8 .ok []) } }

theorem test_witness_ConsoleFrameIsReceived :
    (live.link.raised = [] ∧ live.link.rx = [] ∧ (List.replicate 248 0xA5#8).length ≤ 248 ∧
      live.link.requests.length < 8) ∧
    (queueFull.link.raised = [] ∧ queueFull.link.rx = [] ∧ queueFull.link.replyPlaceFree = true) ∧
    (repliesFull.link.raised = [] ∧ repliesFull.link.rx = [] ∧ repliesFull.link.replyPlaceFree = false) := by
  decide +kernel

/-- A state whose receiver holds the first bytes of a frame. -/
def inFrame (rest : List Byte) : State := { live with link := { live.link with rx := sync :: rest } }

theorem test_witness_DiscardedFramesAreCounted :
    Settled live ∧ live.link.rx = [] ∧ 248 < (249#8 : Byte).toNat ∧ Settled (inFrame [5#8]) ∧
    (inFrame [5#8]).link.rx = [sync, 5#8] ∧ checkFrame [5#8] = .partial_ ∧ sync ∉ [5#8] ∧
    checkFrame [5#8, 1#8, sync, 248#8] = .partial_ ∧ checkFrame [248#8] = .partial_ := by decide +kernel

/-- Damaged frames without another inside, and with one whose CRC stands where the outer CRC should. -/
theorem test_witness_DamagedFrames :
    let inner := consoleFrame 0x58#8 7#8 []
    let body : List Byte := [3#8, 0x58#8] ++ inner.take 4
    inner.drop 4 ≠ leBytes 2 (crc16 body).toNat ∧ body ++ inner.drop 4 = [3#8, 0x58#8] ++ inner ∧
    sync ∉ [3#8, (0x58#8 : Byte)] ∧ inner.length = 6 ∧ live.link.requests.length < 8 ∧
    [0#8, 0#8] ≠ leBytes 2 (crc16 [0#8, 0x58#8, 7#8]).toNat ∧ sync ∉ [0#8, 0x58#8, 7#8, 0#8, (0#8 : Byte)] := by
  decide +kernel

/-- A state in which one request waits. -/
def asked (kind : Byte) (payload : List Byte) (s : State) : State :=
  { s with link := { s.link with requests := [⟨kind, 1#8, payload⟩] } }

theorem test_witness_AcceptanceRunsTheCommand :
    (asked 0x5A#8 [2#8] live).link.replyPlaceFree = true ∧
    (⟨0x5A#8, 1#8, [2#8]⟩ : Request).command = some (.setMode 1#8 (some 2)) ∧
    (⟨0x10#8, 1#8, [1#8, 200#8, 0#8, 0#8, 0#8]⟩ : Request).command =
      some (.setRouteRouterForm 1#8 (some (200, 0))) ∧
    (⟨0x38#8, 1#8, [7#8, 0#8]⟩ : Request).command = some (.loadLensTableReadForm 1#8 (some 7)) := by decide +kernel

theorem test_witness_RefusedRequestsChangeNothing :
    repliesFull.link.replyPlaceFree = false ∧ (repliesFull.link.requests).length = 8 ∧
    (asked 0x03#8 [] live).link.replyPlaceFree = true ∧ (asked 0x03#8 [] live).link.raised = [] ∧
    ¬(0x03#8 ∈ requestKinds) ∧ (0x5A#8 ∈ requestKinds) ∧ (asked 0x5A#8 [2#8] State.reset).link.mode = .starting ∧
    (live.serveRequest ⟨0x5A#8, 1#8, [7#8]⟩).result = .badFormat := by decide +kernel

/-- A link with a FRAME report pending between two messages, and one with it in transmission. -/
def pendingFrame : Link :=
  { Link.initial with sending := some (.reply 1#8 1#8 .ok []), out := [.report .crew [], .report .frame [], .report .take []] }
def sendingFrame : Link := { Link.initial with sending := some (.report .frame []), waiting := [.report .frame [u8 1]] }

theorem test_witness_ReportsTakeTheirPlace :
    { Link.initial with mask := Vector.replicate 8 false }.mask[ReportKind.frame.index] = false ∧
    Link.initial.pendingOf .frame = 0 ∧ Link.initial.sending.any (Message.isReportOf .frame) = false ∧
    pendingFrame.mask[ReportKind.frame.index] = true ∧ pendingFrame.pendingOf .frame = 1 ∧
    sendingFrame.pendingOf .frame = 0 ∧ sendingFrame.sending.any (Message.isReportOf .frame) = true ∧
    sendingFrame.raised = [] ∧ pendingFrame.sending.isSome = true := by decide +kernel

theorem test_witness_StatusSaveAndLock :
    State.reset.link.raised = [] ∧ State.reset.link.replyPlaceFree = true ∧ Serving live ∧ live.store.save = none := by
  decide +kernel

theorem test_witness_SetReportsTakesEffect : Serving live ∧ (⟨1, 250⟩ : ReportsArgs).interval ≤ 250 := by decide +kernel

def slowSetup : State := { inSetup with gov := { inSetup.gov with scale := 64 } }

/-- In SETUP at full creep, and in OPERATE with the geometry not set: both branches of SET MODE. -/
theorem test_witness_SetModeChangesMode :
    (Serving live ∧ ScaleLaw live ∧ live.store.save = none ∧ modeOf 2 = some live.link.mode) ∧
    (Serving slowSetup ∧ ScaleLaw slowSetup ∧ slowSetup.link.mode = .setup ∧ slowSetup.store.valid = true ∧
      slowSetup.pose.geometrySet = true) := by
  decide +kernel

set_option maxRecDepth 20000 in
theorem test_witness_LoadEndsGoodOrBad :
    State.reset.link.mode = .starting ∧ Settled State.reset ∧ State.reset.store.eeprom = none ∧
    parseImage [] = none ∧ (parseImage someSettings.image).isSome = true ∧
    ({ State.reset with store := ⟨false, false, none, some [0x00#8, 0x00#8, 1#8]⟩ } : State).store.eeprom =
      some (0x00#8 :: 0x00#8 :: [1#8]) := by decide +kernel

set_option maxRecDepth 20000 in
/-- R193: an image is good by its four tests alone: FOLLOW without a FOCUS table and one address on two locators are no
field out of its range, while FOLLOW for PAN is (R43). A directory out of order is put in order. -/
theorem test_image_is_judged_by_its_ranges :
    let shared : Settings := { someSettings with
      tables := #v[[], [], []], locators := Vector.replicate 8 ⟨true, 9, false, 600⟩ }
    let turned : Settings := { someSettings with directory := [⟨7, .crew, 100⟩, ⟨3, .talent, 200⟩, ⟨7, .talent, 300⟩] }
    parseImage shared.image = some shared ∧
    parseImage { someSettings with routes := someSettings.routes.set 4 .follow }.image = none ∧
    (parseImage turned.image).map Settings.directory = some [⟨3, .talent, 200⟩, ⟨7, .talent, 300⟩] := by decide +kernel

set_option maxRecDepth 20000 in
/-- R16: with REFERENCE in the image the load leaves FREE_RUN, in which a pulse is not judged, and the boundary it
makes goes to ACQUIRING. -/
theorem test_load_acquires_at_its_boundary :
    let load : Instr := .settingsLoadEnd { someSettings with source := .reference }.image
    let loaded := after load { State.reset with tb := { live.tb with frameNumber := 6 } }
    let pulsed := after (.referencePulse 1) loaded
    let t := after (.frameBoundary calm) pulsed
    loaded.tb.source = .reference ∧ loaded.tb.lock = .freeRun ∧ loaded.tb.boundaryDue = true ∧ pulsed = loaded ∧
    t.tb.lock = .acquiring ∧ t.tb.pubLock = .acquiring ∧ t.tb.frameNumber = 7 ∧ t.tb.expectation = none := by
  decide +kernel

set_option maxRecDepth 20000 in
/-- R194: an image whose save has not ended is bad at the next load, and the image of a save that ended is read. -/
theorem test_image_of_a_save_in_flight :
    let image := someSettings.image
    (live.store.beginSave image 7).readImage image = 0x00#8 :: 0x00#8 :: image.drop 2 ∧
    parseImage ((live.store.beginSave image 7).readImage image) = none ∧
    ((live.store.beginSave image 7).endSave true ⟨image, 7⟩).readImage [] = image := by decide +kernel

/-- R193: a zone activation of 3 is out of its range. -/
theorem test_activation_out_of_range : activationOf 2 0 = some .off ∧ activationOf 3 0 = none := by decide

theorem test_witness_SaveEndsWithItsResult :
    let s := { live with store := { live.store with save := some ⟨[1#8], 9⟩, eeprom := some [] } }
    s.store.save = some ⟨[1#8], 9⟩ ∧ s.link.raised = [] := by decide +kernel

/-! ### Witnesses: Time Base -/

/-- A change of source, and of the ticks alone. -/
theorem test_witness_SetTimebaseTakesEffect :
    Serving live ∧ live.player.state = .idle ∧ live.recorder.state = .idle ∧ live.store.save = none ∧
    refSourceOf 1 = some .reference ∧ tickRateOk 0 17 = true ∧ live.tb.started = true ∧
    refSourceOf 0 = some live.tb.source ∧ live.tb.rateCode = 2 ∧ tickRateOk 2 16 = true := by decide +kernel

/-- Waiting for a pulse on the reference, with an expectation or without. -/
def seeking (lock : LockState) (due : Option Nat) : State :=
  withTb (fun t => { t with source := .reference, lock := lock, expectation := due, entryWait := due.isNone }) live

/-- The pulse 20000 crystal periods after the tick lies on the window's edge, and the next one outside it. -/
theorem test_witness_PulsesAreJudged :
    let s := seeking .holdover (some 775840)
    let off (dt : Nat) := ((s.tb.lastTick + 5 * dt : Nat) - (775840 : Int)).natAbs
    Settled live ∧ live.tb.source = .internal ∧ Settled (seeking .acquiring none) ∧
    (seeking .acquiring none).tb.expectation = none ∧ (seeking .acquiring none).tb.entryWait = true ∧ Settled s ∧
    s.tb.expectation = some 775840 ∧ 4 * s.tb.frameTpf * off 20000 ≤ s.tb.frameLen ∧
    s.tb.frameLen < 4 * s.tb.frameTpf * off 20001 ∧
    (s.tb.history[1] && s.tb.history[2] && s.tb.history[3]) = false := by decide +kernel

/-- The fourth good verdict: with phase established and without. -/
def locking (phase : Bool) : State :=
  withTb (fun t => { t with history := #v[false, true, true, true], lastGoodPulse := some 100, phaseEstablished := phase
                            frameNumber := 7 }) (seeking .acquiring (some 775840))

theorem test_witness_LockIsGained :
    let t := (after (.referencePulse 20000) (locking true)).tb
    (seeking .noReference (some 775840)).link.raised = [] ∧ (seeking .noReference (some 775840)).tb.lock = .noReference ∧
    (locking true).tb.lock = .acquiring ∧ (locking true).tb.history[1] = true ∧
    4 * (locking true).tb.frameTpf * 61440 ≤ (locking true).tb.frameLen ∧ 0 < t.measured ∧
    (locking true).tb.lastTick + 100000 < (locking true).tb.frameEnd ∧ (locking false).tb.phaseEstablished = false ∧
    t.lock = .locked := by decide +kernel

/-- The same while a frame that SET TIMEBASE has cut waits for its end at the next tick. -/
theorem test_witness_LockIsGainedInACutFrame :
    let s := withTb (fun t => { t with cut := true, tickIndex := 3, frameEnd := t.lastTick + 245760 }) (locking true)
    let t := (after (.referencePulse 20000) s).tb
    s.tb.cut = true ∧ s.link.raised = [] ∧ s.tb.expectation = some 775840 ∧ s.tb.lock = .acquiring ∧
    s.tb.lastTick + 100000 < s.tb.frameEnd ∧ 0 < t.measured ∧ t.lock = .locked ∧ s.tb.frameEnd ≤ t.frameEnd := by
  decide +kernel

/-- LOCKED, with the boundary's window open and what it has seen. -/
def inWindow (isOpen h : Bool) (pulses : Nat) (hit : Option PulseHit) : State :=
  withTb (fun t => { t with source := .reference, lock := .locked, windowOpen := isOpen, windowPulses := pulses
                            windowHit := hit, history := #v[true, h, true, true] }) live

theorem test_witness_LockedWindowsAreJudged :
    Settled (inWindow false true 0 none) ∧ (inWindow false true 0 none).tb.windowOpen = false ∧
    (inWindow true true 0 none).tb.windowPulses ≠ 1 ∧
    ((inWindow true true 2 none).tb.history[1] && (inWindow true true 2 none).tb.history[2] &&
      (inWindow true true 2 none).tb.history[3]) = true ∧
    (inWindow true false 1 none).tb.windowHit = none ∧ (inWindow true false 1 none).tb.history[1] = false ∧
    Settled (inWindow true true 1 (some ⟨61440, 64, 4915200, 20⟩)) ∧
    (inWindow true true 1 (some ⟨61440, 64, 4915200, 20⟩)).tb.windowHit = some ⟨61440, 64, 4915200, 20⟩ := by
  decide +kernel

/-- R14: the end of a cut frame stands, whatever its window finds. -/
theorem test_cut_frame_keeps_its_end :
    let s := withTb (fun t => { t with cut := true }) (inWindow true true 1 (some ⟨61440, 64, 4915200, 20⟩))
    (after .pulseWindowClose s).tb.frameEnd = s.tb.frameEnd := by decide +kernel

theorem test_witness_TickInsideFrame : live.tb.boundaryDue = false := by decide +kernel

/-- A boundary in HOLDOVER at its limit, with a FRAME report due. -/
def atLimit (count interval : Nat) : State :=
  { withTb (fun t => { t with source := .reference, lock := .holdover, holdoverCount := count }) atBoundary with
    link := { atBoundary.link with interval := interval, counter := 249 } }

/-- The boundary to come is that of a load with REFERENCE in its image. -/
def loadedReference : State := withTb (fun t => { t with source := .reference, acquireDue := true }) atBoundary

/-- A crew entry at a distance ahead of the head, which stands at x = 3000, below the head's height. -/
def withEntryAt (x : Int) (s : State) : State :=
  { s with crew := { s.crew with table := [crewOf 17 .tracked x 0 400 400 0] } }

/-- R106, R115: inside a frame the least scale, the highest near count and the mark are gathered; a boundary begins them
afresh, from a scale of 0 at the first tick after a reset. -/
theorem test_witness_FiguresAreGathered :
    let near (s : State) := withEntryAt 5028 s
    let first : State := { atBoundary with stop := { atBoundary.stop with sampled := false } }
    let figures (s : State) := (after (.tick calm) s).gov.figures
    live.tb.boundaryDue = false ∧ atBoundary.tb.boundaryDue = true ∧
    figures { near live with gov := { live.gov with figures := ⟨500, 3, false⟩ } } = ⟨64, 3, true⟩ ∧
    figures { live with gov := { live.gov with figures := ⟨500, 3, false⟩ } } = ⟨500, 3, false⟩ ∧
    figures (near atBoundary) = ⟨64, 1, true⟩ ∧ figures atBoundary = ⟨1024, 0, false⟩ ∧ figures first = ⟨0, 0, false⟩ ∧
    (after (.tick calm) (withEntryAt 5027 live)).stop.mark = true ∧ (after (.tick calm) live).stop.mark = false ∧
    (after (.tick calm) { atBoundary with stop := { atBoundary.stop with mark := true } }).stop.mark = false := by
  decide +kernel

theorem test_witness_FrameBoundaryTurnsTheFrame :
    atBoundary.tb.started = true ∧ atBoundary.tb.boundaryDue = true ∧ atBoundary.link.raised = [] ∧
    atBoundary.link.interval = 0 ∧ (atLimit 49 250).tb.boundaryDue = true ∧
    (atLimit 49 250).tb.holdoverLimit ≤ 49 + 1 ∧ (atLimit 49 250).link.interval ≤ (atLimit 49 250).link.counter + 1 ∧
    ¬(atLimit 48 250).tb.holdoverLimit ≤ 48 + 1 ∧ 250 + 1 < 252 ∧ State.reset.tb.boundaryDue = true ∧
    State.reset.tb.started = false ∧ State.reset.link.raised = [] ∧
    loadedReference.tb.acquireDue = true ∧ loadedReference.tb.lock = .freeRun ∧
    loadedReference.tb.boundaryDue = true ∧ loadedReference.link.raised = [] := by
  decide +kernel

/-! ### Witnesses: channels, Router -/

def absentChannel : Channel := { liveChannel with cfg := ChannelConfig.default, state := .disabled }
def faultedChannel : Channel := { liveChannel with state := .faulted, faults := ⟨true, true, false, true⟩ }

/-- A configuration at the ends of its ranges, absent or present. -/
def someConfig (present : Bool) : ChannelConfig :=
  { ChannelConfig.default with present := present, parkDelay := 1000, pickupWindow := 1 }

def lockedSettings (s : State) : State := { s with store := { s.store with locked := true } }

theorem test_witness_ConfigureChannelTakesEffect :
    let absent := withChan 9 (fun _ => absentChannel) live
    let faulted := withChan 3 (fun _ => faultedChannel) inSetup
    Serving absent ∧ (someConfig true).Valid ∧ (someConfig false).Valid ∧ absent.store.save = none ∧
    absent.chans[9].state = .disabled ∧ absent.chans[9].cfg.present = false ∧ Serving faulted ∧
    faulted.chans[3].state = .faulted ∧ faulted.chans[3].cfg.present = true ∧ faulted.link.mode = .setup ∧
    faulted.recorder.state = .idle ∧ Serving (lockedSettings absent) ∧
    ¬({ someConfig true with parkDelay := 0, pickupWindow := 512 } = absent.chans[9].cfg) ∧
    { someConfig false with parkDelay := 0, pickupWindow := 512 } = absent.chans[9].cfg := by decide +kernel

/-- EMERGENCY by channel A, every drive line off. -/
def inEmergency : State :=
  { live with
    chans := Vector.replicate 10 { liveChannel with state := .disabled }
    stop := { live.stop with causes := { live.stop.causes with estopA := true }, state := .emergency } }

theorem test_witness_EnableDisableClear :
    let c := (withChan 9 (fun _ => { faultedChannel with faults := ⟨false, true, false, false⟩ }) live).chans[9]
    Serving live ∧ live.stop.state ≠ .emergency ∧ Serving inEmergency ∧ inEmergency.stop.state = .emergency ∧
    Serving playing ∧ playing.router.routes[0].held = true ∧ Nat.testBit 512 9 = true ∧
    (∀ i : Fin 10, Nat.testBit 1022 i.val = true → live.router.routes[i].held = false) ∧
    c.state = .faulted ∧ (c.faults.driveFault = true → c.faultLine = false) := by decide +kernel

/-- R39: CLEARED, and without its name in the mask STILL_FAULTED; a channel without a fault is NOT_FAULTED. -/
theorem test_clear_outcomes :
    let c := { faultedChannel with faults := ⟨false, false, true, false⟩ }
    (c.clearOutcome true, c.clearOutcome false) = (.cleared, .stillFaulted) ∧
    ({ c with faults := ⟨false, true, false, false⟩, faultLine := true }).clearOutcome true = .stillFaulted ∧
    liveChannel.clearOutcome true = .notFaulted := by decide

/-- The second bad read in a row, the first, and a good one; a FAULTED channel. -/
theorem test_witness_EncoderReadIsTheStep :
    let lost := withChan 3 (fun c => { c with badRun := 1 }) live
    live.link.raised = [] ∧ CauseLaw live ∧ live.chans[3].readPending = true ∧ live.chans[3].cfg.present = true ∧
    live.chans[3].driveEnable = true ∧ CauseLaw lost ∧ lost.chans[3].badRun = 1 ∧
    crc8 ((encoderBytes (-2147483648) 1#8).toList.take 5) = (encoderBytes (-2147483648) 1#8)[5] ∧
    crc8 ((Vector.replicate 6 (1#8 : Byte)).toList.take 5) ≠ (Vector.replicate 6 (1#8 : Byte))[5] ∧
    (withChan 3 (fun _ => faultedChannel) live).chans[3].state = .faulted := by decide +kernel

/-- R28, R37: ready withdrawn in ACTIVE, and an encoder one count beyond the following limit and on it. -/
theorem test_drive_not_ready_and_following :
    let faults (position : Int) (ready : Bool) :=
      (after (.encoderAnswer 3 (encoderBytes position 0#8) ⟨ready, false⟩) live).chans[3].faults
    let limit := live.chans[3].cfg.followingLimit
    faults 0 false = { FaultSet.empty with driveNotReady := true } ∧ faults (limit + 1) true = { FaultSet.empty with following := true } ∧
    faults limit true = .empty := by decide +kernel

/-- A channel that a running pass holds, whose next bad read is the second in a row. -/
def faulting (i : Fin 10) : State :=
  withChan i (fun c => { c with badRun := 1 }) { playing with mem := takeMemory { readyTake with set := [i] } }

/-- R176: a head channel's entry to FAULTED sets CHANNEL_FAULT and the pass runs on; an arm channel's is EMERGENCY, and
the pass closes STOPPED with it. -/
theorem test_witness_ChannelFaultsInAPass :
    let far := encoderBytes 5000000 0#8
    let t := after (.encoderAnswer 5 far ⟨true, false⟩) (faulting 5)
    let u := after (.encoderReadWindowClose 3 ⟨true, false⟩) (faulting 3)
    CauseLaw (faulting 5) ∧ (faulting 5).chans[5].readPending = true ∧ (faulting 5).chans[5].cfg.present = true ∧
    CauseLaw (faulting 3) ∧ (faulting 3).chans[3].badRun = 1 ∧ 5 ∈ (faulting 5).heldSet ∧ 3 ∈ (faulting 3).heldSet ∧
    (faulting 3).player.pass = some closedPass ∧ t.chans[5].state = .faulted ∧ t.player.state = .playing ∧
    t.player.pass.map PassRecord.flags = some { PassFlags.opening 1024 with channelFault := true } ∧
    u.stop.state = .emergency ∧ u.player.state = .idle ∧ u.mem.passes.map PassRecord.result = [some .stopped] ∧
    u.mem.passes.map PassRecord.flags = [{ PassFlags.opening 1024 with channelFault := true }] := by decide +kernel

theorem test_witness_TimersEndAtAStep :
    let waits (st : ChState) (n : Nat) := withChan 0 (fun c => { c with state := st, phase := .engage, brakeTimer := n }) live
    let rests (delay n : Nat) := withChan 0 (fun c => { c with cfg := { c.cfg with parkDelay := delay }, rest := n })
      { live with tb := { live.tb with tickIndex := 0 } }
    CauseLaw (waits .releasing 2) ∧ (waits .releasing 2).chans[0].cfg.Valid ∧ 1 < (waits .releasing 2).chans[0].brakeTimer ∧
    (waits .releasing 1).chans[0].brakeTimer ≤ 1 ∧ (waits .parking 0).chans[0].state = .parking ∧
    (waits .stopping 1).chans[0].phase = .engage ∧ (rests 5 4).chans[0].cfg.Valid ∧
    (rests 5 4).chans[0].cfg.parkDelay ≤ (rests 5 4).chans[0].rest + 1 ∧
    (rests 5 3).chans[0].rest + 1 < (rests 5 3).chans[0].cfg.parkDelay ∧ (rests 0 0).chans[0].cfg.parkDelay = 0 ∧
    (rests 5 4).router.routes[0].active = .own .hold ∧ (rests 5 4).stop.state ≠ .protective ∧
    (rests 5 4).chans[0].v = 0 ∧ (rests 5 4).chans[0].cfg.softMin * 256 ≤ (rests 5 4).chans[0].p ∧
    ((rests 5 4).chans[0].p / 256 - toSigned 4 (leNat ((encoderBytes 4096 0#8).toList.take 4))).natAbs
      ≤ (rests 5 4).chans[0].cfg.followingLimit := by decide +kernel

/-- Channel 0 in the RAMP phase; PARKED on a source, with its encoder where it will be read. -/
def ramping (v : Int) : State := withChan 0 (fun c => { c with state := .stopping, phase := .ramp, v := v }) live

def parkedOn (src : RouteSource) (armed : Bool) : State :=
  let s := withChan 0 (fun c => { c with state := .parked }) live
  { s with router := { s.router with
      routes := s.router.routes.set 0 ⟨src, .own src, armed⟩
      controls := s.router.controls.set 11 ⟨400, 0, false⟩ } }

/-- A PARKED channel stays at its preset, leaves for another, and drops out beyond its limits; and it arms. -/
theorem test_witness_ParkedSteps :
    let preset := parkedOn (.preset 7 none) false
    let read (s : State) (position : Int) := after (.encoderAnswer 0 (encoderBytes position 0#8) ⟨true, false⟩) s
    CauseLaw (ramping (-1)) ∧ (ramping (-1)).chans[0].phase = .ramp ∧ (ramping (-1)).chans[0].cfg.Valid ∧
    CauseLaw preset ∧ preset.chans[0].state = .parked ∧ preset.chans[0].readPending = true ∧ preset.gov.scale = 1024 ∧
    preset.chans[0].cfg.softMin ≤ 7 ∧ 7 ≤ preset.chans[0].cfg.softMax ∧ preset.stop.state ≠ .hold ∧
    (read preset 7).chans[0].state = .parked ∧ (read preset 8).chans[0].state = .releasing ∧
    (read preset 1000001).chans[0].state = .disabled ∧
    (parkedOn (.rate 11) false).router.controls[11].stale = false ∧
    (read (parkedOn (.rate 11) false) 0).router.routes[0].armed = true ∧
    (read (parkedOn (.position 11) false) 0).router.routes[0].armed = false ∧
    (parkedOn .hold false).router.routes[0].active = .own .hold := by decide +kernel

theorem test_witness_ControlTableIsKept :
    let s := { live with router := { live.router with controls := live.router.controls.set 11 ⟨-32767, 100, false⟩ } }
    Serving live ∧ live.store.save = none ∧ (∀ p ∈ [(11, (-32768 : Int)), (0, 5), (11, 7)], p.1 < 12) ∧
    s.router.controls[11].stale = false ∧ ceilDiv (s.router.controlTimeout * s.tb.tickRate) 1000 < 100 + 1 ∧
    live.router.controls[0].stale = true ∧ Settled live := by decide +kernel

def withTable (s : State) : State := { s with lens := { s.lens with tables := s.lens.tables.set 1 focusTable } }

theorem test_witness_SetRouteTakesEffect :
    Serving live ∧ live.store.save = none ∧ live.lens.tables[1] = [] ∧ Serving (withTable live) ∧
    (withTable live).lens.tables[1] ≠ [] ∧ (8 : Fin 10).val = 7 + (1 : Fin 3).val ∧
    (inverseMap (withTable live).lens.tables[1] 600).1 = 0 ∧ focus = 8 ∧ Serving playing ∧
    playing.router.routes[0].held = true := by decide +kernel

/-- A route of channel 0 and its control, for a step in ACTIVE. -/
def driven (active : ActiveSource) : State :=
  { live with router := { live.router with
      routes := live.router.routes.set 0 ⟨.hold, active, true⟩
      controls := live.router.controls.set 11 ⟨32767, 0, false⟩ } }

theorem test_witness_ActiveStepMoves :
    let s := driven (.own (.rate 11))
    CauseLaw s ∧ s.link.raised = [] ∧ s.chans[0].cfg.present = true ∧ s.chans[0].readPending = true ∧
    s.chans[0].cfg.Valid ∧ crc8 ((encoderBytes 0 0#8).toList.take 5) = (encoderBytes 0 0#8)[5] ∧
    s.chans[0].state = .active ∧ s.chans[0].cfg.parkDelay = 0 ∧ s.router.routes[0].armed = true ∧
    s.router.controls[11].stale = false ∧ (driven (.own (.preset 1000001 none))).stop.state ≠ .hold ∧
    (driven (.approach (-1000001))).router.routes[0].active = .approach (-1000001) ∧
    (driven .take).router.routes[0].active = .take ∧ (driven (.own .hold)).router.routes[0].active = .own .hold := by
  decide +kernel

/-- The same at the step of a boundary, with a park delay of 5 frames and so many at rest. -/
def drivenToPark (active : ActiveSource) (rest : Nat) : State :=
  withChan 0 (fun c => { c with cfg := { c.cfg with parkDelay := 5 }, rest := rest })
    { driven active with tb := { live.tb with tickIndex := 0 } }

/-- A channel that moves, one that stands still, one that goes to PARKING, and one that a CUED Player keeps from it. -/
theorem test_witness_ActiveStepParks :
    let step (s : State) := (after (.encoderAnswer 0 (encoderBytes 0 0#8) ⟨true, false⟩) s).chans[0]
    let preset (target : Int) := ActiveSource.own (.preset target none)
    let playing (s : State) : State := { s with player := { s.player with state := .cued } }
    CauseLaw (drivenToPark (preset 9) 4) ∧ (drivenToPark (preset 9) 4).chans[0].cfg.Valid ∧
    (drivenToPark (preset 9) 4).chans[0].state = .active ∧
    ((step (drivenToPark (preset 9) 4)).state, (step (drivenToPark (preset 9) 4)).rest) = (.active, 0) ∧
    ((step (drivenToPark (preset 0) 3)).state, (step (drivenToPark (preset 0) 3)).rest) = (.active, 4) ∧
    ((step (drivenToPark (preset 0) 4)).state, (step (drivenToPark (preset 0) 4)).rest) = (.parking, 5) ∧
    ((step (playing (drivenToPark .take 4))).state, (step (playing (drivenToPark .take 4))).rest) = (.active, 0) := by
  decide +kernel

/-- The same in HOLD, unarmed, or with the input stale. -/
def drivenInHold (active : ActiveSource) : State :=
  { driven active with stop := { live.stop with causes := { live.stop.causes with enableReleased := true }, state := .hold } }

def unarmed (value : Int) (stale : Bool) (active : ActiveSource) : State :=
  { live with router := { live.router with
      routes := live.router.routes.set 0 ⟨.hold, active, false⟩
      controls := live.router.controls.set 11 ⟨value, 0, stale⟩ } }

/-- A control in the deadband arms and one beyond it does not; a stale one disarms; HOLD stills a preset; a take's
position beyond vmax is OVERSPEED; and a preset outside the limits is LIMIT. -/
theorem test_witness_ActiveStepFlags :
    let step (s : State) := after (.encoderAnswer 0 (encoderBytes 0 0#8) ⟨true, false⟩) s
    let far : State := { driven .take with player := { live.player with positions := live.player.positions.set 0 11 } }
    CauseLaw (unarmed 400 false (.own (.rate 11))) ∧ CauseLaw (drivenInHold (.own (.preset 9 none))) ∧
    (step (unarmed 400 false (.own (.rate 11)))).router.routes[0].armed = true ∧
    (step (unarmed 401 false (.own (.rate 11)))).router.routes[0].armed = false ∧
    (step (unarmed 0 false (.own (.position 11)))).router.routes[0].armed = true ∧
    (unarmed 32767 true (.own (.position 11))).router.controls[11].stale = true ∧
    (step { driven (.own (.rate 11)) with router := { (driven (.own (.rate 11))).router with
      controls := live.router.controls } }).router.routes[0].armed = false ∧
    (step (drivenInHold (.own (.preset 9 none)))).chans[0].v = 0 ∧
    (step (driven (.own (.preset 9 none)))).chans[0].v = 256 ∧ (step far).chans[0].overspeed = true ∧
    (step (driven (.own (.preset 1000001 none)))).chans[0].limit = true := by decide +kernel

/-! ### Witnesses: Pose Unit, locators, crew -/

/-- The units and contributions that the previous pose was formed from are those that stand. -/
def formed : State := after (.tick calm) inSetup

theorem test_witness_SetGeometryTakesEffect :
    Serving formed ∧ formed.link.mode = .setup ∧ formed.store.save = none ∧ formed.store.locked = false ∧
    (⟨-1000000, 1000000, 0, 20000, 4000⟩ : Geometry).Valid ∧ inSetup.pose.prev = none ∧
    (formed.pose.prev.any fun q => (List.finRange 4).all fun k =>
      q.contributed[k] == (formed.armContribution k).isSome && q.units[k] == (formed.armContribution k).getD 0) = true := by
  decide +kernel

theorem test_witness_EveryTickFormsThePose :
    let s := withChan 3 (fun c => { c with unitFresh := false }) formed
    live.pose.prev = none ∧ formed.pose.prev.isSome = true ∧ s.armContribution 3 = none ∧
    (s.pose.prev.any fun q => q.contributed[3]) = true := by decide +kernel

/-- A round at its last slot, that of locator 7. -/
def polling (answering discard : Bool) : State :=
  { live with bus := {
      locators := live.bus.locators.set 7 ⟨true, 254, false, 600, .searching, Vector.replicate 8 true, 7, 0, false, false⟩
      round := some ⟨5, 7, 254, answering, discard, [], []⟩ } }

theorem test_witness_PollSlotsEnd :
    let whole := locatorFrame 254 1#8 [(1, -5, 7, 15), (65535, 0, 0, 0)]
    (Settled (polling false false) ∧ CauseLaw (polling false false) ∧ Settled (polling true true) ∧
      CauseLaw (polling true true) ∧ Settled (polling true false) ∧ CauseLaw (polling true false)) ∧
    (polling true false).bus.round = some ⟨5, 7, 254, true, false, [], []⟩ ∧ answerComplete (whole.take 27) = false ∧
    (3#8).toNat + 2 ≤ [255#8, 0#8, 0#8, 1#8, 1#8].length ∧
    leNat [1#8, 1#8] ≠ (crc16 [3#8, 255#8, 0#8, 0#8]).toNat ∧ fits (-5) ∧ fits 7 ∧
    (∀ g ∈ [(1, (-5 : Int), (7 : Int), 16)], g.2.2.2 < 256) := by decide +kernel

/-- R77: answers with a good CRC that are a miss all the same: a length of 0, one at odds with the count, and a count
of five; and one in form. -/
theorem test_witness_MalformedAnswers :
    let framed (covered : List Byte) := covered ++ leBytes 2 (crc16 covered).toNat
    let misses (covered : List Byte) :=
      (after (.locatorAnswer (framed covered)) (polling true false)).bus.locators[7].misses
    let five : List Byte := 58#8 :: 254#8 :: 0#8 :: 5#8 :: List.replicate 55 0#8
    (five.drop 1).length = (58#8 : Byte).toNat ∧ 4 < (5#8 : Byte).toNat ∧
    (4#8 : Byte).toNat ≠ 3 + 11 * (0#8 : Byte).toNat ∧
    (misses [0#8], misses [4#8, 254#8, 0#8, 0#8, 0#8], misses five, misses [3#8, 254#8, 0#8, 0#8]) = (8, 8, 8, 0) := by
  decide +kernel

/-- A boundary with a round running, with no locator configured, and with two configured. -/
def pollingAt (configured : Bool) (round : Option Round) : State :=
  { atBoundary with bus := {
      locators := (atBoundary.bus.locators.set 1 { Locator.initial 1 with configured := configured, address := 200 }).set 6
        { Locator.initial 6 with configured := configured }
      round := round } }

theorem test_witness_RoundsBegin :
    let r : Round := ⟨5, 6, 7, false, false, [], []⟩
    let t := after (.frameBoundary calm) (pollingAt true none)
    (pollingAt true none).tb.boundaryDue = true ∧ (pollingAt true none).bus.round = none ∧
    (pollingAt true (some r)).bus.round = some r ∧
    ((List.finRange 8).filter fun j => (pollingAt false none).bus.locators[j].configured) = [] ∧
    t.bus.round.map Round.current = some 1 ∧ t.bus.driven = true ∧ t.bus.poll.length = 3 ∧
    t.bus.poll.head? = some 200#8 ∧ (after .pollSent t).bus.driven = false := by decide +kernel

/-- A table with an entry to see, a STALE, a LOST and a TEST one. -/
def crewTable : List CrewEntry :=
  [crewOf 17 .tracked 7010 3990 400 400 0, crewOf 40 .stale 5500 6000 450 400 2, crewOf 51 .lost 1200 800 3000 400 65535,
    ⟨65535, .test, 0, 0, 500, 500, 0, none, 0, 0, 0, .tracked⟩]

theorem test_witness_RoundEndUpdatesTheTable :
    let c := { CrewTracker.initial with table := crewTable }
    let g : Sighting := ⟨17, 7000, 4000, 4, 1, 0⟩
    let new : Sighting := ⟨88, 2000, -1500, 6, 1, 1⟩
    (c.table.map CrewEntry.tagId).Nodup ∧ (∀ e ∈ c.table, e.role = .test ↔ e.tagId = 65535) ∧ c.table.length ≤ 24 ∧
    c.params.minQuality ≤ g.quality ∧ (∀ e ∈ c.table, e.tagId ≠ new.tagId) ∧
    (c.roundEnd live.gov 5 [g, new]).overflow = false ∧ 40 ∉ [g, new].map Sighting.tagId ∧
    c.params.lostAfter ≤ min 65535 (65535 + 1) := by decide +kernel

/-- Twenty-three entries stand, and two new tags come: the one before in the order joins. -/
theorem test_witness_RoundEndOverflows :
    let table := (List.range 23).map fun n => crewOf (n + 1) .tracked 0 0 400 400 0
    let c := { CrewTracker.initial with table := table, membership := 65535 }
    let g : Sighting := ⟨88, 2000, -1500, 6, 1, 1⟩
    let h : Sighting := ⟨40, 5500, 6000, 15, 3, 0⟩
    let t := c.roundEnd live.gov 5 [g, h]
    (c.table.map CrewEntry.tagId).Nodup ∧ (∀ e ∈ c.table, e.role = .test ↔ e.tagId = 65535) ∧ c.table.length ≤ 24 ∧
    ([g, h].Pairwise fun a b => a.locator < b.locator ∨ (a.locator = b.locator ∧ a.order < b.order)) ∧
    t.overflow = true ∧ t.table.map CrewEntry.tagId = (List.range 23).map (· + 1) ++ [88] ∧ t.membership = 0 := by
  decide +kernel

/-- The last slot of a round, with a table that is full, or has one place left; on RATE, armed. -/
def crowded (entries : Nat) (overflow : Bool) : State :=
  { polling true false with
    crew := { live.crew with
      table := (List.range entries).map fun n => crewOf (n + 1) .tracked 100000 100000 400 400 0, overflow := overflow }
    gov := { live.gov with latch := { live.gov.latch with crewOverflow := overflow } }
    router := { live.router with routes := Vector.replicate 10 ⟨.rate 0, .own (.rate 0), true⟩ } }

/-- R87, R107: a tag beyond 24 entries sets the latch; one that finds a place takes the cause away, not the latch. -/
theorem test_witness_OverflowSetsTheLatch :
    let answer := Instr.locatorAnswer (locatorFrame 254 0#8 [(60, 1, 1, 15)])
    let t := after answer (crowded 24 false)
    let u := after answer (crowded 23 true)
    Settled (crowded 24 false) ∧ CauseLaw (crowded 24 false) ∧ (crowded 24 false).gov.latch.isSet = false ∧
    (t.crew.overflow, t.gov.latch.crewOverflow, t.gov.latch.isSet) = (true, true, true) ∧
    t.gov.latch.firstCause = some .crewOverflow ∧ t.gov.latch.setFrame = some t.tb.frameNumber ∧ t.gov.scale = 0 ∧
    t.stop.state = .protective ∧ t.router.routes[6].armed = false ∧ t.router.routes[7].armed = true ∧
    Settled (crowded 23 true) ∧ CauseLaw (crowded 23 true) ∧ (u.crew.overflow, u.gov.latch.crewOverflow) = (false, false) := by
  decide +kernel

/-- R76, R87: a round with no configured entry ends at its boundary, and without a new tag CREW_OVERFLOW goes. -/
theorem test_witness_EmptyRoundClearsOverflow :
    let s : State := { pollingAt false none with
      crew := { live.crew with overflow := true }
      gov := { live.gov with latch := ⟨true, false, true, false, some 1, some .crewOverflow, none, false⟩ } }
    let t := after (.frameBoundary calm) s
    s.tb.boundaryDue = true ∧ s.bus.round = none ∧ (t.crew.overflow, t.gov.latch.crewOverflow) = (false, false) ∧
    t.gov.latch.isSet = true := by decide +kernel

theorem test_witness_SetLocatorTakesEffect :
    let mid := { inSetup with bus := (polling false false).bus }
    let two := { inSetup with bus := ⟨inSetup.bus.locators.set 7 { Locator.initial 7 with configured := true }, none⟩ }
    Serving inSetup ∧ CauseLaw inSetup ∧ inSetup.store.save = none ∧ inSetup.store.locked = false ∧
    ((⟨true, 254, true, 1800⟩ : LocatorConfig).address ≤ 254) ∧
    Serving mid ∧ mid.bus.locators[7].configured = true ∧ mid.bus.locators[7].address = 254 ∧
    mid.bus.round.isSome = true ∧ Serving two ∧ two.bus.locators[7].configured = true ∧
    two.bus.locators[7].address = 8 := by decide +kernel

/-- A crew table of a TRACKED and a LOST tag, and a directory that knows the first. -/
def withCrew : State :=
  { live with crew := { live.crew with
      table := [crewOf 17 .tracked 0 0 400 400 0, crewOf 65534 .lost 0 0 3000 400 60], directory := [⟨17, .talent, 400⟩] } }

theorem test_witness_TagRequestsTakeEffect :
    Serving withCrew ∧ CrewLaw withCrew ∧ withCrew.store.save = none ∧ withCrew.store.locked = false ∧
    (withCrew.crew.directory.any fun t => t.tagId == 17) = true ∧
    (withCrew.crew.directory.any fun t => t.tagId == 65534) = false ∧ withCrew.crew.directory.length < 64 ∧
    (⟨15, 10, 10, 500, 10000, 3000⟩ : TrackerParams).Valid ∧ (∀ e ∈ withCrew.crew.table, e.tagId ≠ 1) ∧
    (withCrew.crew.table.map CrewEntry.state) = [.tracked, .lost] := by decide +kernel

/-! ### Witnesses: Governor, stops, lens -/

def marginAfter (s : State) : List Int :=
  let t := after (.tick calm) s
  t.crew.table.map fun e => crewMargin t.pose.head t.pose.geometry.crewCeiling t.gov.params.clearance e - t.gov.braking

/-- A margin of exactly 0 and one of 1: the head's 3000, 400 and 1500 of clearance, and 2028 × 15 ÷ 16 = 1901. -/
theorem test_witness_GovernorActsOnMargins :
    live.tb.boundaryDue = false ∧ live.link.raised = [] ∧ live.gov.params.Valid ∧ live.gov.scale ≤ 1024 ∧
    live.gov.latch.isSet = false ∧ live.gov.latch.governor = false ∧
    marginAfter (withEntryAt 5027 live) = [0] ∧ marginAfter (withEntryAt 5028 live) = [1] ∧
    (after (.tick calm) (withEntryAt 5027 live)).gov.latch.isSet = true ∧
    (after (.tick calm) (withEntryAt 5028 live)).gov.scale = 64 ∧ live.capStands = false ∧
    inSetup.capStands = true := by decide +kernel

/-- The latch stands; its release was held over the frame, with auto-resume on, at a boundary; a test runs. -/
def latchStands (atEnd held auto : Bool) : State :=
  let s := if atEnd then atBoundary else live
  { s with
    gov := { s.gov with
      scale := 0, params := { s.gov.params with autoResume := auto }, marginsReady := true
      latch := ⟨true, true, false, true, some 1, some .governor, none, held⟩ }
    stop := { s.stop with causes := { s.stop.causes with latch := true }, state := .protective } }

def testing : State :=
  { withEntryAt 5027 live with stop := { live.stop with test := ⟨.running, 0, 0, 250, 9, 1, none, none, none, none⟩ } }

theorem test_witness_LatchesStandAndGo :
    let freed := after (.tick calm) (latchStands true true true)
    (latchStands true true true).gov.params.Valid ∧ (latchStands true true true).tb.boundaryDue = true ∧
    (latchStands true true true).stop.test.state ≠ .running ∧ (latchStands true true true).link.raised = [] ∧
    (freed.gov.latch.isSet, freed.gov.latch.locatorOffline, freed.gov.scale) = (false, false, 8) ∧
    (after (.tick calm) (latchStands false true true)).gov.latch.isSet = true ∧
    (after (.tick calm) (latchStands true false true)).gov.latch.isSet = true ∧
    (after (.tick calm) (latchStands true true false)).gov.latch.isSet = true ∧
    testing.tb.boundaryDue = false ∧ testing.stop.test.latchFrame = none ∧
    (after (.tick calm) testing).stop.test.latchFrame = some testing.tb.frameNumber := by decide +kernel

theorem test_witness_GovernorSettingsTakeEffect :
    Serving live ∧ Serving inSetup ∧ Serving (lockedSettings inSetup) ∧ live.store.save = none ∧
    (⟨.exit, -1000000, 1000000, 5, 5, 20000, 5000, .guard 7⟩ : Zone).Valid ∧
    (⟨300, 500, 200, 0, 1, true⟩ : GovernorParams).Valid ∧ inSetup.capStands = true ∧ 0 < inSetup.gov.scale ∧
    live.capStands = false ∧ inSetup.link.mode = .setup ∧ live.link.mode = .operate := by decide +kernel

/-- The latch set, by a cause that holds it or not. -/
def latched (ready overflow : Bool) : State :=
  { live with
    gov := { live.gov with
      scale := 0, marginsReady := ready, latch := ⟨true, true, overflow, false, some 1, some .governor, none, true⟩ }
    stop := { live.stop with causes := { live.stop.causes with latch := true }, state := .protective } }

theorem test_witness_StopsAreReleased :
    let faulty := { inEmergency with stop := { inEmergency.stop with armFaults := #v[false, false, false, true] } }
    Serving live ∧ CauseLaw live ∧ live.gov.latch.isSet = false ∧ live.stop.state ≠ .emergency ∧
    Serving (latched true false) ∧ CauseLaw (latched true false) ∧ (latched true false).gov.marginsReady = true ∧
    CauseLaw (latched true true) ∧ (latched true true).gov.latch.crewOverflow = true ∧
    Serving inEmergency ∧ CauseLaw inEmergency ∧ inEmergency.stop.a.isOpen = false ∧
    inEmergency.stop.causes.discrepancy = false ∧ inEmergency.stop.armFaults.toList.all (!·) = true ∧
    CauseLaw faulty ∧ faulty.stop.armFaults.toList.all (!·) = false := by decide +kernel

def differing : State := { live with stop := { live.stop with a := ⟨true, true⟩, discTimer := some 50 } }

/-- Channel A reads open: it opens its channel, and with B closed for the discrepancy time it is DISCREPANCY. -/
theorem test_witness_StopLinesAct :
    EngineLaw live ∧ StopLaw live ∧ live.link.raised = [] ∧ live.stop.a.isOpen = false ∧ live.stop.b.isOpen = false ∧
    EngineLaw differing ∧ StopLaw differing ∧ differing.stop.sampled = true ∧ differing.stop.causes.discrepancy = false ∧
    ceilDiv (differing.stop.discTime * differing.tb.tickRate) 1000 ≤ 50 ∧ differing.stop.b.sampleOpen = false := by
  and_intros <;> decide +kernel

/-- R117: below the limit the timer starts and counts, at 51 it is DISCREPANCY, and it stops when the channels agree;
R116: one closed sample keeps a channel open. -/
theorem test_witness_DiscrepancyTimerRuns :
    let lines (a b : Bool) : TickInputs := { calm with estopAOpen := a, estopBOpen := b }
    let from' (n : Option Nat) : State := { differing with stop := { differing.stop with discTimer := n } }
    let timer (n : Option Nat) (a b : Bool) :=
      let t := after (.tick (lines a b)) (from' n)
      (t.stop.discTimer, t.stop.causes.discrepancy, t.stop.a.isOpen)
    EngineLaw (from' none) ∧ StopLaw (from' none) ∧ timer none true false = (some 0, false, true) ∧
    timer (some 49) true false = (some 50, false, true) ∧ timer (some 50) true false = (none, true, true) ∧
    timer (some 50) true true = (none, false, true) ∧ timer (some 3) false false = (some 4, false, true) := by
  and_intros <;> decide +kernel

/-- Every channel on RATE, armed. -/
def armedChannels : State :=
  { live with router := { live.router with routes := Vector.replicate 10 ⟨.rate 0, .own (.rate 0), true⟩ } }

/-- R53: HOLD and PROTECTIVE disarm the arm and head channels, EMERGENCY all of them, and RUN none. -/
theorem test_witness_StopsDisarm :
    let armed (inp : TickInputs) (s : State) :=
      let t := after (.tick inp) s
      (t.stop.state, t.router.routes.toList.map Route.armed)
    let released : TickInputs := { calm with enableHeld := false }
    let s := { armedChannels with stop := { armedChannels.stop with enableSample := false } }
    EngineLaw s ∧ StopLaw s ∧ armed released s = (.hold, List.replicate 7 false ++ List.replicate 3 true) ∧
    CauseLaw (withEntryAt 5027 armedChannels) ∧
    armed calm (withEntryAt 5027 armedChannels) = (.protective, List.replicate 7 false ++ List.replicate 3 true) ∧
    armed { calm with estopAOpen := true } s = (.emergency, List.replicate 10 false) ∧
    armed calm armedChannels = (.run, List.replicate 10 true) := by
  and_intros <;> decide +kernel

/-- DISCREPANCY stands, with the loop's channels as they stood and were sampled, and the both-open flag. -/
def discrepant (isOpen both : Bool) : State :=
  { inEmergency with stop := { inEmergency.stop with
      causes := { inEmergency.stop.causes with estopB := true, discrepancy := true }, bothOpen := both
      a := ⟨isOpen, isOpen⟩, b := ⟨isOpen, isOpen⟩ } }

/-- R118: both open set the flag, both closed after it take DISCREPANCY away, and one open or the flag clear do not. -/
theorem test_witness_DiscrepancyLeaves :
    let lines (a b : Bool) : TickInputs := { calm with estopAOpen := a, estopBOpen := b }
    let left (s : State) (a b : Bool) :=
      let t := after (.tick (lines a b)) s
      (t.stop.causes.discrepancy, t.stop.bothOpen)
    (EngineLaw (discrepant false true) ∧ StopLaw (discrepant false true) ∧ (discrepant false true).stop.sampled = true) ∧
    left (discrepant false true) false false = (false, false) ∧ left (discrepant false true) true false = (true, true) ∧
    left (discrepant false false) false false = (true, false) ∧ left (discrepant false false) true true = (true, true) ∧
    left (discrepant true false) false false = (true, true) := by
  and_intros <;> decide +kernel

def testRunning (remaining : Nat) : State :=
  { atBoundary with stop := { atBoundary.stop with test := ⟨.running, 0, 0, 250, remaining, 1, none, none, none, none⟩ } }

theorem test_witness_SafetyTestRuns :
    live.link.raised = [] ∧ Serving live ∧ live.stop.test.state ≠ .running ∧ live.player.state = .idle ∧
    live.recorder.state = .idle ∧ live.gov.latch.isSet = false ∧ live.crew.table.length < 24 ∧
    (testRunning 2).tb.boundaryDue = true ∧ (testRunning 2).stop.test.state = .running ∧
    1 < (testRunning 2).stop.test.remaining ∧ (testRunning 1).stop.test.remaining ≤ 1 ∧
    (testRunning 1).link.raised = [] := by decide +kernel

/-- A rising and a falling table, at an end, at a point and within a segment. -/
theorem test_witness_LensMapsInterpolate :
    let rises := focusTable
    let falls : List LensPoint := [⟨0, 1600⟩, ⟨8000, 280⟩]
    rises.head? = some ⟨0, 600⟩ ∧ rises.getLast? = some ⟨16000, 20000⟩ ∧ 2 ≤ rises.length ∧
    rises.Pairwise (fun a b => a.counts < b.counts) ∧ rises.Pairwise (fun a b => a.value < b.value) ∧
    falls.head? = some ⟨0, 1600⟩ ∧ falls.getLast? = some ⟨8000, 280⟩ ∧ 2 ≤ falls.length ∧
    falls.Pairwise (fun a b => a.counts < b.counts) ∧ falls.Pairwise (fun a b => b.value < a.value) ∧
    rises[3]? = some ⟨14000, 5000⟩ ∧ rises[4]? = some ⟨16000, 20000⟩ ∧
    forwardMap rises 16001 = 20000 ∧ inverseMap falls 281 = (7994, false) := by decide +kernel

/-- FOCUS follows a point. -/
def following : State :=
  { withTable live with
    router := { live.router with routes := live.router.routes.set 8 ⟨.follow, .own .follow, false⟩ }
    lens := { (withTable live).lens with
      target := ⟨.point, 7000, 4000, 1600, 0, 1600, 0⟩, follow := ⟨.holding, 0, none, false, false⟩ } }

theorem test_witness_LensRequestsTakeEffect :
    Serving live ∧ lensTableOk 1 focusTable = true ∧ live.store.save = none ∧
    live.router.routes[lensChannel 1].held = false ∧ Serving following ∧
    following.router.routes[8].active = .own .follow ∧ following.player.state = .idle ∧
    following.lens.follow.state ≠ .inactive ∧ following.lens.target.kind = .point ∧ following.lens.target.Valid ∧
    following.lens.tables[1].head? = some ⟨0, 600⟩ ∧ following.lens.tables[1].getLast? = some ⟨16000, 20000⟩ := by
  decide +kernel

/-- The same while the Player plays a take that holds another channel. -/
theorem test_witness_FollowingWhilePlaying :
    let s := { following with player := playing.player, mem := playing.mem }
    s.player.state ≠ .idle ∧ focus ∉ s.heldSet ∧ s.lens.follow.state ≠ .inactive ∧
    (after (.tick calm) s).lens.follow.state = .following := by decide +kernel

/-- The same without a FOCUS table, as an image may leave it: FOLLOWING, whatever the figures are. -/
theorem test_witness_FollowingWithoutTable :
    let s := { following with lens := { following.lens with tables := live.lens.tables } }
    s.lens.tables[1] = [] ∧ s.player.state = .idle ∧ s.lens.follow.state ≠ .inactive ∧ s.lens.target.kind = .point ∧
    (after (.tick calm) s).lens.follow.state = .following := by decide +kernel

/-- FOCUS follows tag 17, which is in a state, or is not in the table. -/
def followingTag (e : Option CrewState) : State :=
  { following with
    lens := { following.lens with target := ⟨.tag, 0, 0, 0, 17, 1600, 0⟩ }
    crew := { live.crew with table := e.toList.map fun st => crewOf 17 st 7000 4000 400 400 0 } }

theorem test_witness_FollowStates :
    let s (e : Option CrewState) := (after (.tick calm) (followingTag e)).lens.follow.state
    (∀ e ∈ (followingTag (some .lost)).crew.table, e.tagId = 17 → e.role ≠ .test) ∧
    (followingTag none).lens.target.kind = .tag ∧
    (s (some .tracked), s (some .stale), s (some .lost), s none) = (.following, .holding, .lost, .lost) ∧
    (after (.tick calm) (followingTag none)).lens.follow.followLost = true ∧
    ({ following with lens := { following.lens with target := ⟨.none, 0, 0, 0, 0, 1600, 0⟩ } } : State).lens.target.kind =
      .none := by decide +kernel

/-! ### Witnesses: takes, Player, readings -/

/-- A Recorder at the end of a block of 128 records, and one at the last record but one. -/
def recordingAt (frames : Nat) (chain free : List Nat) : State :=
  { recording .recording frames atBoundary with
    mem := { takeMemory { recordingTake frames with chain := chain } with free := free } }

def lastBlocks : State := recordingAt 65534 (List.range 512) (List.range' 512 512)

def fullBlock : State := recordingAt 128 [0] (List.range' 1 1023)

theorem test_recorder_blocks : BlockLaw fullBlock ∧ BlockLaw lastBlocks :=
  ⟨test_block_law _ 1 1023 (by decide +kernel) rfl rfl (by decide +kernel),
    test_block_law _ 512 512 (by decide +kernel) rfl rfl (by decide +kernel)⟩

theorem test_witness_RecordingKeepsFrames :
    (Serving live ∧ live.link.mode = .operate ∧ live.recorder.state = .idle ∧ live.stop.test.state ≠ .running ∧
      live.stop.state ≠ .emergency ∧ live.mem.slots[31].state = .empty ∧ nameOk [0x41#8] = true ∧
      (∀ c : Fin 10, live.chans[c].cfg.present = true) ∧ live.mem.free.head? = some 1) ∧
    (Serving (recording .armed 0 live) ∧ (recording .armed 0 live).recorder.slot = some 0 ∧ (recording .armed 0 live).recorder.state ≠ .idle) ∧
    (EngineLaw fullBlock ∧ CellsLaw fullBlock ∧ fullBlock.loopStaysClosed calm ∧ fullBlock.tb.boundaryDue = true ∧
      fullBlock.recorder.slot = some 0 ∧ 128 % (1024 / 8) = 0) ∧
    (EngineLaw lastBlocks ∧ CellsLaw lastBlocks ∧ lastBlocks.loopStaysClosed calm) := by
  and_intros <;> decide +kernel

/-- An ARMED Recorder at a boundary: NOW, and AT_ROLL with a CUED Player of another slot. -/
def armedNow : State := recording .armed 0 atBoundary

def armedAtRoll (roll : Bool) : State :=
  { atBoundary with
    mem := { TakeMemory.initial with
      free := List.range' 2 1022
      slots := (TakeMemory.initial.slots.set 0 readyTake).set 1 { recordingTake 0 with chain := [1] } }
    recorder := ⟨.armed, some 1, .atRoll, 0⟩
    player := { Player.initial with state := .cued, slot := some 0, rollPending := roll }
    router := playing.router }

theorem test_armed_blocks (roll : Bool) : BlockLaw armedNow ∧ BlockLaw (armedAtRoll roll) :=
  ⟨test_block_law _ 1 1023 (by decide +kernel) rfl rfl (by decide +kernel),
    test_block_law _ 2 1022 (by cases roll <;> decide +kernel) rfl rfl (by cases roll <;> decide +kernel)⟩

/-- An overdub at full pace, TRAVEL one tick before the boundary of frame 1 of the take in slot 1, which stands at 20
counts there. -/
def overdubbing : State :=
  { armedAtRoll false with
    mem := { (armedAtRoll false).mem with
      cells := writeCell [] 12 20#8
      slots := (TakeMemory.initial.slots.set 0 { readyTake with frames := 3 }).set 1 { recordingTake 1 with chain := [1] } }
    recorder := ⟨.recording, some 1, .atRoll, 8⟩
    player := { playing.player with clock := 19456, ticks := 19 }
    chans := atBoundary.chans.set 0 { liveChannel with p := 19 * 256, demand := 19 } }

/-- R152: at the boundary of frame 1 record 1 takes TRAVEL's demand most recently sent, that of the step before it, while
the position that the Player publishes there is the played take's for frame 1. -/
theorem test_overdub_records_the_demand :
    let t := after (.frameBoundary calm) overdubbing
    t.player.clock = 20480 ∧ overdubbing.mem.position overdubbing.mem.slots[0] 1 0 = 20 ∧ t.mem.slots[1].frames = 2 ∧
    t.player.positions[0] = 20 ∧ t.mem.position t.mem.slots[1] 1 0 = 19 := by
  decide +kernel

theorem test_witness_RecordingStarts :
    (EngineLaw armedNow ∧ CellsLaw armedNow ∧ armedNow.loopStaysClosed calm ∧ armedNow.recorder.startKind = .now ∧
      armedNow.mem.slots[0].frames = 0 ∧ (after (.frameBoundary calm) armedNow).recorder.state = .recording) ∧
    (EngineLaw (armedAtRoll true) ∧ CellsLaw (armedAtRoll true) ∧ (armedAtRoll true).loopStaysClosed calm ∧
      (armedAtRoll true).player.slot = some 0 ∧ (armedAtRoll true).mem.slots[1].frames = 0 ∧
      (∀ c ∈ (armedAtRoll true).mem.slots[0].set,
        (armedAtRoll true).chans[c].state ≠ .disabled ∧ (armedAtRoll true).chans[c].state ≠ .faulted) ∧
      (after (.frameBoundary calm) (armedAtRoll true)).recorder.state = .recording) ∧
    (EngineLaw (armedAtRoll false) ∧ CellsLaw (armedAtRoll false) ∧
      (after (.frameBoundary calm) (armedAtRoll false)).recorder.state = .armed) := by
  and_intros <;> decide +kernel

/-- R154, R177, R180: EMERGENCY at one frame discards the recording and at two keeps it, and closes the pass STOPPED. -/
theorem test_witness_EmergencyEndsTakeAndPass :
    let kept : State := { overdubbing with
      mem := { overdubbing.mem with slots := overdubbing.mem.slots.set 1 { recordingTake 2 with chain := [1] } } }
    let pressed : TickInputs := { calm with estopAOpen := true }
    let t := after (.tick pressed) overdubbing
    let u := after (.tick pressed) kept
    EngineLaw overdubbing ∧ StopLaw overdubbing ∧ overdubbing.link.raised = [] ∧ overdubbing.stop.a.isOpen = false ∧
    overdubbing.recorder.slot = some 1 ∧ overdubbing.player.pass = some closedPass ∧ EngineLaw kept ∧ StopLaw kept ∧
    t.mem.slots[1] = Slot.empty ∧ t.mem.free.getLast? = some 1 ∧ u.mem.slots[1].state = .ready ∧
    u.mem.slots[1].flags.estopEnd = true ∧ u.mem.free = kept.mem.free ∧ u.player.state = .idle ∧
    u.mem.passes.map PassRecord.result = [some .stopped] ∧ u.mem.slots[0].lastPass = u.mem.passes.getLast? ∧
    u.mem.passes.map PassRecord.endFrame = [u.tb.frameNumber] := by
  and_intros <;> decide +kernel

/-- An upload with three records written of its four. -/
def loading (written : Nat) : State :=
  { live with mem := takeMemory { readyTake with state := .loading, frames := 4, written := written } }

theorem test_witness_TakesAreLoadedAndErased :
    (Serving live ∧ EngineLaw live ∧ CellsLaw live ∧ live.mem.slots[31].state = .empty ∧ nameOk [0x7E#8] = true ∧
      tickRateOk 2 20 = true ∧ ceilDiv 65535 128 ≤ live.mem.free.length ∧
      live.mem.free.length < ceilDiv 65535 (1024 / 44)) ∧
    (Serving (loading 24) ∧ EngineLaw (loading 24) ∧ CellsLaw (loading 24) ∧ (loading 24).mem.slots[0].state = .loading ∧
      24 + (List.replicate 8 (0#8 : Byte)).length ≤ (loading 24).mem.slots[0].streamLength ∧
      (let sl := (loading 24).mem.slots[0];
        ((loading 24).mem.writeStream sl 24 (List.replicate 8 0#8)).completedOk sl 24 32) = true ∧
      (loading 24).mem.slots[0].written < (loading 24).mem.slots[0].streamLength ∧
      (loading 32).mem.slots[0].written = (loading 32).mem.slots[0].streamLength ∧ EngineLaw (loading 32)) ∧
    (live.mem.slots[0].state ≠ .empty ∧ live.recorder.slot ≠ some 0 ∧ live.player.slot ≠ some 0 ∧
      live.mem.slots[0].erase = true ∧ (loading 24).mem.slots[0].erase = true) := by
  and_intros <;> decide +kernel

/-- A Player with the take of slot 1, in a state other than PLAYING. -/
def holding (st : PlayerState) (s : State) : State :=
  { s with
    player := { Player.initial with state := st, slot := some 0, cueTimer := 2999, cueFlag := st == .cueing
                                    rollPending := st == .cued }
    router := playing.router }

theorem test_witness_CueAndRollAreTaken :
    let cued := { holding .cued live with player := { (holding .cued live).player with rollPending := false } }
    Serving live ∧ live.link.mode = .operate ∧ live.player.state = .idle ∧ live.mem.slots[0].play = true ∧
    live.mem.slots[0].rateCode = live.tb.rateCode ∧ live.mem.slots[0].tpf = live.tb.tpf ∧
    live.stop.test.state ≠ .running ∧ live.stop.state ≠ .emergency ∧ live.mem.slots[0].state = .ready ∧
    (∀ c ∈ live.mem.slots[0].set, live.chans[c].cfg.present = true ∧
      live.chans[c].state ∈ [ChState.active, .parking, .parked, .releasing]) ∧
    (let a : ReplayArgs := ⟨250, 1024, 1⟩; 250 ≤ a.cueTimeout ∧ a.paceFall ≤ 1024 ∧ 1 ≤ a.paceRise) ∧
    Serving cued ∧ cued.player.state = .cued ∧ cued.player.rollPending = false ∧
    (let out := withChan 5 (fun c => { c with state := .parked, encoder := 1000001 }) live
      let t := after (.cue 0#8 (some ⟨1, none⟩)) out
      Serving out ∧ out.chans[5].withinLimits = false ∧ t.player.state = .cueing ∧ t.chans[5].state = .disabled) := by
  decide +kernel

def cuedTake : State := holding .cued atBoundary

theorem test_witness_TakeClockAdvances :
    EngineLaw cuedTake ∧ cuedTake.loopStaysClosed calm ∧ cuedTake.link.raised = [] ∧ cuedTake.player.slot = some 0 ∧
    cuedTake.player.rollPending = true ∧ cuedTake.tb.boundaryDue = true ∧
    (∀ c ∈ cuedTake.mem.slots[0].set, cuedTake.chans[c].state ≠ .disabled ∧ cuedTake.chans[c].state ≠ .faulted) ∧
    EngineLaw playing ∧ playing.loopStaysClosed calm ∧ playing.player.state = .playing ∧
    playing.tb.boundaryDue = false ∧ playing.player.ticks < 4294967295 := by
  and_intros <;> decide +kernel

/-- A pass at a frame boundary, after a frame with a slip and without lock; and one at its last tick there. -/
def playingAtEnd (clock : Nat) : State :=
  { playing with
    tb := { atBoundary.tb with gathered := ⟨true, false, true⟩ }, player := { playing.player with clock := clock } }

theorem test_witness_TakeClockAtABoundary :
    let t := after (.tick calm) (playingAtEnd 3072)
    let u := after (.tick calm) (playingAtEnd 19456)
    EngineLaw (playingAtEnd 3072) ∧ (playingAtEnd 3072).loopStaysClosed calm ∧
    (playingAtEnd 3072).tb.boundaryDue = true ∧ (playingAtEnd 3072).player.pass = some closedPass ∧
    t.player.pass.map PassRecord.flags = some ⟨false, false, true, false, true, false, false⟩ ∧
    t.player.clock = 4096 ∧ u.player.state = .held ∧
    u.mem.passes.getLast?.map PassRecord.result = some (some .degraded) := by
  and_intros <;> decide +kernel

def cueingTake : State := holding .cueing atBoundary

/-- Inside a frame: every held channel at its target, and one that has left the drive. -/
def cueingWith (state : ChState) (atTarget : Bool) : State :=
  withChan 0 (fun c => { c with state := state, atTarget := atTarget }) (holding .cueing live)

theorem test_witness_CueCompletesOrFails :
    (EngineLaw (cueingWith .active true) ∧ (cueingWith .active true).loopStaysClosed calm ∧
      (cueingWith .active true).player.slot = some 0 ∧ (cueingWith .active true).tb.boundaryDue = false ∧
      (∀ c ∈ (cueingWith .active true).mem.slots[0].set, (cueingWith .active true).chans[c].atTarget = true) ∧
      (after (.tick calm) (cueingWith .active true)).player.state = .cued ∧
      (after (.tick calm) (cueingWith .active false)).player.state = .cueing) ∧
    (EngineLaw (cueingWith .disabled true) ∧ (cueingWith .disabled true).loopStaysClosed calm ∧
      (cueingWith .disabled true).chans[0].state = .disabled ∧
      (after (.tick calm) (cueingWith .disabled true)).player.state = .idle) := by
  and_intros <;> decide +kernel

/-- R169: a frame that left the flag set counts, one that did not does not; the boundary sets the flag afresh, in RUN; and
the timer taken first counts at the completion too. -/
theorem test_witness_CueTimerCounts :
    let cueing (n : Nat) (flag atTarget : Bool) : State :=
      withChan 0 (fun c => { c with atTarget := atTarget })
        { cueingTake with player := { cueingTake.player with cueTimer := n, cueFlag := flag } }
    let held : State :=
      { latchStands true false false with player := (cueing 5 true false).player, router := playing.router }
    let timer (inp : TickInputs) (s : State) :=
      let t := after (.frameBoundary inp) s
      (t.player.state, t.player.cueTimer, t.player.cueFlag)
    EngineLaw (cueing 2998 true false) ∧ (cueing 2998 true false).loopStaysClosed calm ∧
    (cueing 2998 true false).player.cueTimeout = 3000 ∧ timer calm (cueing 2998 true false) = (.cueing, 2999, true) ∧
    timer calm (cueing 2999 false false) = (.cueing, 2999, true) ∧ EngineLaw held ∧ held.loopStaysClosed calm ∧
    timer calm held = (.cueing, 6, false) ∧
    (timer { calm with cueTimerFirst := true } (cueing 5 true true)).2.1 = 6 ∧
    (timer calm (cueing 5 true true)).2.1 = 5 ∧ (timer calm (cueing 5 true true)).1 = .cued ∧
    (after (.tick calm) { held with tb := live.tb }).player.cueFlag = false := by
  and_intros <;> decide +kernel

theorem test_witness_PlayerLetsGo :
    EngineLaw playing ∧ Serving playing ∧ EngineLaw (holding .held live) ∧ Serving (holding .held live) ∧
    (holding .held live).player.slot = some 0 ∧ EngineLaw (holding .cued live) ∧ EngineLaw cueingTake ∧
    cueingTake.loopStaysClosed calm ∧ cueingTake.tb.boundaryDue = true ∧ cueingTake.player.cueFlag = true ∧
    cueingTake.recorder.state = .idle ∧ cueingTake.player.cueTimeout ≤ cueingTake.player.cueTimer + 1 ∧
    (∀ c ∈ cueingTake.mem.slots[0].set, cueingTake.chans[c].state ≠ .disabled ∧ cueingTake.chans[c].state ≠ .faulted) := by
  and_intros <;> decide +kernel

/-- R138: EMERGENCY at a tick takes FOCUS from the Player; its follow record holds until the next tick decides it. -/
theorem test_witness_EmergencyGivesFocusBack :
    let s : State := { following with
      player := (holding .held live).player, mem := takeMemory { readyTake with set := [8] }
      router := { following.router with routes := following.router.routes.set 8 ⟨.follow, .take, false⟩ }
      lens := { following.lens with follow := { following.lens.follow with state := .inactive } } }
    let t := after (.tick { calm with estopAOpen := true }) s
    EngineLaw s ∧ StopLaw s ∧ s.link.raised = [] ∧ s.stop.a.isOpen = false ∧ s.player.state ≠ .idle ∧
    focus ∈ s.heldSet ∧ s.router.routes[focus].configured = .follow ∧ t.stop.state = .emergency ∧
    t.lens.follow = ⟨.holding, 0, none, false, false⟩ ∧
    (after (.tick { calm with estopAOpen := true }) t).lens.follow.state = .following := by
  and_intros <;> decide +kernel

theorem test_witness_ReadingsChangeNothing :
    Serving live ∧ live.mem.slots[0].state = .ready ∧ 15 + 1 ≤ live.mem.slots[0].streamLength ∧
    directoryStartOk 3 0 = true := by decide +kernel

end Sys2Proof.Tests
end

