-- ==== Sys2Proof/Proofs/PlanDistance.lean ====
section
/-!
6.4 (R100): the plan distance against the true one. With `M` and `N` the larger and the smaller of |dx| and |dy|,
the true distance is √(M² + N²) and the estimate before truncation is (15M + 5N) ÷ 16. Both bounds are compared as
squares, so no square root appears.
-/
namespace Sys2Proof.Proofs
open Sys2Proof.Machine

/-! ### The weights 15 and 5 -/

/-- The Cauchy–Schwarz bound: 15² + 5² = 250 lies below 16², so the estimate never exceeds the true distance. -/
theorem weightedSum_sq_le (a b : Int) : (15 * a + 5 * b) ^ 2 ≤ 250 * (a ^ 2 + b ^ 2) := by
  have defect : 250 * (a ^ 2 + b ^ 2) = (15 * a + 5 * b) ^ 2 + (5 * a - 15 * b) ^ 2 := by ring
  have defect_nonneg := sq_nonneg (5 * a - 15 * b)
  omega

/-- Only for `b ≤ a`, which is why the larger offset takes the weight 15. The worst case is the diagonal `a = b`. -/
theorem sq_le_weightedSum_sq {a b : Int} (hb : 0 ≤ b) (hba : b ≤ a) :
    (88 * 16) ^ 2 * (a ^ 2 + b ^ 2) ≤ (100 * (15 * a + 5 * b)) ^ 2 := by
  obtain ⟨k, hk, rfl⟩ : ∃ k, 0 ≤ k ∧ a = b + k := ⟨a - b, by omega, by omega⟩
  have surplus : (100 * (15 * (b + k) + 5 * b)) ^ 2 =
      (88 * 16) ^ 2 * ((b + k) ^ 2 + b ^ 2) + (35072 * b ^ 2 + 2035072 * (b * k) + 267536 * k ^ 2) := by ring
  have surplus_nonneg : 0 ≤ 35072 * b ^ 2 + 2035072 * (b * k) + 267536 * k ^ 2 := by positivity
  omega

/-- Ordering two offsets by size keeps the square of the true distance. -/
theorem sq_max_natAbs_add_sq_min_natAbs (dx dy : Int) :
    ((max dx.natAbs dy.natAbs : Nat) : Int) ^ 2 + ((min dx.natAbs dy.natAbs : Nat) : Int) ^ 2 =
      dx * dx + dy * dy := by
  rcases le_total dx.natAbs dy.natAbs with h | h
  · rw [max_eq_right h, min_eq_left h, Int.natAbs_sq, Int.natAbs_sq]; ring
  · rw [max_eq_left h, min_eq_right h, Int.natAbs_sq, Int.natAbs_sq]; ring

/-! ### The plan distance -/

/-- R100: truncation only lowers the estimate. -/
theorem sixteen_mul_planDistance_le (dx dy : Int) :
    16 * (planDistance dx dy : Int) ≤
      15 * (max dx.natAbs dy.natAbs : Nat) + 5 * (min dx.natAbs dy.natAbs : Nat) := by
  exact_mod_cast Nat.mul_div_le (15 * max dx.natAbs dy.natAbs + 5 * min dx.natAbs dy.natAbs) 16

/-- R100: the Governor never thinks a person farther than they are. -/
theorem planDistance_sq_le (dx dy : Int) :
    (planDistance dx dy * planDistance dx dy : Int) ≤ dx * dx + dy * dy := by
  have scaled : (16 * (planDistance dx dy : Int)) ^ 2 ≤ 250 * (dx * dx + dy * dy) :=
    calc (16 * (planDistance dx dy : Int)) ^ 2
      _ ≤ (15 * (max dx.natAbs dy.natAbs : Nat) + 5 * (min dx.natAbs dy.natAbs : Nat)) ^ 2 :=
        pow_le_pow_left₀ (by positivity) (sixteen_mul_planDistance_le dx dy) 2
      _ ≤ 250 * (dx * dx + dy * dy) := by
        rw [← sq_max_natAbs_add_sq_min_natAbs]; exact weightedSum_sq_le _ _
  have distance_nonneg := add_nonneg (mul_self_nonneg dx) (mul_self_nonneg dy)
  linarith

/-- R100: before truncation the estimate is at least 88 per cent of the true distance. -/
theorem sq_le_planDistance_untruncated_sq (dx dy : Int) :
    (88 * 16) ^ 2 * (dx * dx + dy * dy) ≤
      (100 * (15 * (max dx.natAbs dy.natAbs : Nat) + 5 * (min dx.natAbs dy.natAbs : Nat) : Int)) ^ 2 := by
  rw [← sq_max_natAbs_add_sq_min_natAbs]
  exact sq_le_weightedSum_sq (Int.natCast_nonneg _) (Int.ofNat_le.2 min_le_max)

/-- R100: along an axis, 15/16 of the offset. -/
@[simp] theorem planDistance_zero_right (dx : Int) : planDistance dx 0 = 15 * dx.natAbs / 16 := by
  simp [planDistance]

/-- R100: along the diagonal, 20/16 of the offset in each axis. -/
theorem planDistance_of_natAbs_eq {dx dy : Int} (h : dx.natAbs = dy.natAbs) :
    planDistance dx dy = 20 * dx.natAbs / 16 := by
  rw [planDistance, ← h, max_self, min_self, ← Nat.add_mul]

/-- Settles O47: the two bounds as squares, the axis, the diagonal, and the two offsets R100 works out. -/
theorem planDistanceIsBounded : Obligations.PlanDistanceIsBounded := by
  unfold Obligations.PlanDistanceIsBounded
  refine ⟨fun dx dy => ⟨rfl, planDistance_sq_le dx dy, sq_le_planDistance_untruncated_sq dx dy, ?axis,
    planDistance_of_natAbs_eq⟩, by decide, by decide⟩
  case axis =>
    rintro rfl
    exact planDistance_zero_right dx

end Sys2Proof.Proofs
end

