-- ==== Sys2Proof/Proofs/LensMaps.lean ====
section
/-!
8.1 (R131, R132): the maps of a lens table. The forward map is settled first, from one fact: a segment that ends at or
before `c` may be dropped from the front of the table. The inverse map then needs no search of its own. With counts and
values exchanged, and the values negated where they fall, it is the forward map of a table whose counts rise.
-/
namespace Sys2Proof.Proofs
open Sys2Proof.Machine

/-! ### Rounding to nearest, halves up -/

theorem roundHalfUp_of_pos {n d : Int} (hd : 0 < d) : roundHalfUp n d = (2 * n + d) / (2 * d) :=
  if_neg (by omega)

/-- The two inequalities put `n ÷ d` within half of the result, and the half itself on the upper side. -/
theorem roundHalfUp_nearest (n : Int) {d : Int} (hd : 0 < d) :
    2 * n - d < 2 * d * roundHalfUp n d ∧ 2 * d * roundHalfUp n d ≤ 2 * n + d := by
  have below := Int.mul_ediv_self_le (x := 2 * n + d) (k := 2 * d) (by omega)
  have above := Int.lt_mul_ediv_self_add (x := 2 * n + d) (k := 2 * d) (by omega)
  rw [roundHalfUp_of_pos hd]
  omega

theorem roundHalfUp_neg_neg (n d : Int) : roundHalfUp (-n) (-d) = roundHalfUp n d := by
  unfold roundHalfUp
  rcases lt_trichotomy d 0 with hd | rfl | hd
  · rw [if_neg (by omega), if_pos hd]
  · simp
  · rw [if_pos (by omega), if_neg (by omega), neg_neg, neg_neg]

theorem roundHalfUp_mul_add_of_pos (m n : Int) {d : Int} (hd : 0 < d) :
    roundHalfUp (m * d + n) d = m + roundHalfUp n d := by
  have split_off : 2 * (m * d + n) + d = 2 * n + d + 2 * d * m := by ring
  rw [roundHalfUp_of_pos hd, roundHalfUp_of_pos hd, split_off, Int.add_mul_ediv_left _ _ (by omega), add_comm]

theorem roundHalfUp_mul_add (m n : Int) {d : Int} (hd : d ≠ 0) : roundHalfUp (m * d + n) d = m + roundHalfUp n d := by
  rcases lt_or_gt_of_ne hd with hd | hd
  · rw [← roundHalfUp_neg_neg, ← roundHalfUp_neg_neg n d, neg_add, ← mul_neg]
    exact roundHalfUp_mul_add_of_pos m (-n) (by omega)
  · exact roundHalfUp_mul_add_of_pos m n hd

theorem roundHalfUp_zero {d : Int} (hd : 0 < d) : roundHalfUp 0 d = 0 := by
  rw [roundHalfUp_of_pos hd]
  exact Int.ediv_eq_zero_of_lt (by omega) (by omega)

theorem roundHalfUp_mul (m : Int) {d : Int} (hd : 0 < d) : roundHalfUp (m * d) d = m := by
  simpa [roundHalfUp_zero hd] using roundHalfUp_mul_add_of_pos m 0 hd

theorem roundHalfUp_mono {n m d : Int} (hd : 0 < d) (h : n ≤ m) : roundHalfUp n d ≤ roundHalfUp m d := by
  rw [roundHalfUp_of_pos hd, roundHalfUp_of_pos hd]
  exact Int.ediv_le_ediv (by omega) (by omega)

/-! ### One segment -/

/-- The value at `c` of the segment from `a` to `b`, as R131 words it. -/
def segmentAt (a b : LensPoint) (c : Int) : Int :=
  a.value + roundHalfUp ((b.value - a.value) * (c - a.counts)) (b.counts - a.counts)

theorem segmentAt_start {a b : LensPoint} (hab : a.counts < b.counts) : segmentAt a b a.counts = a.value := by
  simp [segmentAt, roundHalfUp_zero (sub_pos.2 hab)]

theorem segmentAt_end {a b : LensPoint} (hab : a.counts < b.counts) : segmentAt a b b.counts = b.value := by
  rw [segmentAt, roundHalfUp_mul _ (sub_pos.2 hab), add_sub_cancel]

theorem segmentAt_nearest {a b : LensPoint} (c : Int) (hab : a.counts < b.counts) :
    2 * ((b.value - a.value) * (c - a.counts)) - (b.counts - a.counts) <
        2 * (b.counts - a.counts) * (segmentAt a b c - a.value) ∧
      2 * (b.counts - a.counts) * (segmentAt a b c - a.value) ≤
        2 * ((b.value - a.value) * (c - a.counts)) + (b.counts - a.counts) := by
  rw [segmentAt, add_sub_cancel_left]
  exact roundHalfUp_nearest _ (sub_pos.2 hab)

/-- Between two rising values the result leaves neither end: rounding keeps order and fixes whole numbers. -/
theorem segmentAt_mem {a b : LensPoint} {c : Int} (hab : a.counts < b.counts) (hv : a.value ≤ b.value)
    (hac : a.counts ≤ c) (hcb : c ≤ b.counts) : a.value ≤ segmentAt a b c ∧ segmentAt a b c ≤ b.value := by
  have d_pos := sub_pos.2 hab
  have low := roundHalfUp_mono d_pos (mul_nonneg (sub_nonneg.2 hv) (sub_nonneg.2 hac))
  have high := roundHalfUp_mono d_pos
    (mul_le_mul_of_nonneg_left (sub_le_sub_right hcb a.counts) (sub_nonneg.2 hv))
  rw [roundHalfUp_zero d_pos] at low
  rw [roundHalfUp_mul _ d_pos] at high
  unfold segmentAt
  omega

/-! ### The ends of a table whose counts rise -/

theorem first_counts_le {table : List LensPoint} {first p : LensPoint} (hfirst : table.head? = some first)
    (rising : table.Pairwise (fun a b => a.counts < b.counts)) (hp : p ∈ table) : first.counts ≤ p.counts := by
  obtain ⟨rest, rfl⟩ := List.head?_eq_some_iff.1 hfirst
  rcases List.mem_cons.1 hp with rfl | hp
  · exact le_rfl
  · exact (List.rel_of_pairwise_cons rising hp).le

theorem le_last_counts {table : List LensPoint} {last p : LensPoint} (hlast : table.getLast? = some last)
    (rising : table.Pairwise (fun a b => a.counts < b.counts)) (hp : p ∈ table) : p.counts ≤ last.counts := by
  obtain ⟨init, rfl⟩ := List.getLast?_eq_some_iff.1 hlast
  rcases List.mem_append.1 hp with hp | hp
  · exact ((List.pairwise_append.1 rising).2.2 p hp last (List.mem_singleton_self last)).le
  · rw [List.mem_singleton.1 hp]

theorem counts_lt_of_getElem? {table : List LensPoint} {k : Nat} {a b : LensPoint}
    (rising : table.Pairwise (fun a b => a.counts < b.counts)) (ha : table[k]? = some a)
    (hb : table[k + 1]? = some b) : a.counts < b.counts := by
  obtain ⟨hk, rfl⟩ := List.getElem?_eq_some_iff.1 ha
  obtain ⟨hk', rfl⟩ := List.getElem?_eq_some_iff.1 hb
  exact List.pairwise_iff_getElem.1 rising k (k + 1) hk hk' k.lt_succ_self

/-! ### The forward map (R131) -/

theorem forwardMap_of_lt_first {table : List LensPoint} {first : LensPoint} {c : Int}
    (hfirst : table.head? = some first) (hc : c < first.counts) : forwardMap table c = first.value := by
  obtain ⟨rest, rfl⟩ := List.head?_eq_some_iff.1 hfirst
  cases rest with
  | nil => rfl
  | cons b rest => rw [forwardMap, if_pos hc]

theorem forwardMap_of_first_segment {a b : LensPoint} (rest : List LensPoint) {c : Int}
    (hab : a.counts < b.counts) (hac : a.counts ≤ c) (hcb : c ≤ b.counts) :
    forwardMap (a :: b :: rest) c = segmentAt a b c := by
  rw [forwardMap, if_neg (by omega), if_pos hcb, roundHalfUp_mul_add _ _ (by omega), segmentAt]

theorem forwardMap_first {a : LensPoint} {rest : List LensPoint}
    (rising : (a :: rest).Pairwise (fun a b => a.counts < b.counts)) : forwardMap (a :: rest) a.counts = a.value := by
  cases rest with
  | nil => rfl
  | cons b rest =>
    have hab := List.rel_of_pairwise_cons rising List.mem_cons_self
    rw [forwardMap_of_first_segment rest hab le_rfl hab.le, segmentAt_start hab]

/-- R131: where `c` falls on a point, the two segments that meet there agree, so the one before may be dropped. -/
theorem forwardMap_drop_first {a b : LensPoint} {rest : List LensPoint} {c : Int}
    (rising : (a :: b :: rest).Pairwise (fun a b => a.counts < b.counts)) (hbc : b.counts ≤ c) :
    forwardMap (a :: b :: rest) c = forwardMap (b :: rest) c := by
  have hab := List.rel_of_pairwise_cons rising List.mem_cons_self
  rcases hbc.eq_or_lt with rfl | hbc
  · rw [forwardMap_of_first_segment rest hab hab.le le_rfl, segmentAt_end hab, forwardMap_first rising.of_cons]
  · rw [forwardMap, if_neg (by omega), if_neg (by omega)]

theorem forwardMap_of_last_le {table : List LensPoint} {last : LensPoint} {c : Int}
    (hlast : table.getLast? = some last) (rising : table.Pairwise (fun a b => a.counts < b.counts))
    (hc : last.counts ≤ c) : forwardMap table c = last.value := by
  induction table with
  | nil => simp at hlast
  | cons a rest ih =>
    cases rest with
    | nil =>
      obtain rfl : a = last := by simpa using hlast
      rfl
    | cons b rest =>
      rw [List.getLast?_cons_cons] at hlast
      have hb := le_last_counts hlast rising.of_cons List.mem_cons_self
      rw [forwardMap_drop_first rising (hb.trans hc), ih hlast rising.of_cons]

theorem forwardMap_of_segment {table : List LensPoint} {k : Nat} {a b : LensPoint} {c : Int}
    (rising : table.Pairwise (fun a b => a.counts < b.counts)) (ha : table[k]? = some a)
    (hb : table[k + 1]? = some b) (hac : a.counts ≤ c) (hcb : c ≤ b.counts) :
    forwardMap table c = segmentAt a b c := by
  induction table generalizing k with
  | nil => simp at ha
  | cons p rest ih =>
    cases rest with
    | nil => simp at hb
    | cons q rest =>
      cases k with
      | zero =>
        obtain rfl : p = a := by simpa using ha
        obtain rfl : q = b := by simpa using hb
        exact forwardMap_of_first_segment rest (List.rel_of_pairwise_cons rising List.mem_cons_self) hac hcb
      | succ k =>
        rw [List.getElem?_cons_succ] at ha hb
        have hq := first_counts_le rfl rising.of_cons (List.mem_of_getElem? ha)
        rw [forwardMap_drop_first rising (hq.trans hac), ih rising.of_cons ha hb]

theorem forwardMap_of_mem {table : List LensPoint} {p : LensPoint}
    (rising : table.Pairwise (fun a b => a.counts < b.counts)) (hp : p ∈ table) :
    forwardMap table p.counts = p.value := by
  induction table with
  | nil => simp at hp
  | cons a rest ih =>
    rcases List.mem_cons.1 hp with rfl | hp
    · exact forwardMap_first rising
    · cases rest with
      | nil => simp at hp
      | cons b rest =>
        rw [forwardMap_drop_first rising (first_counts_le rfl rising.of_cons hp), ih rising.of_cons hp]

/-! ### The inverse map as a forward map (R132) -/

/-- A point with counts and value exchanged. The sign is 1 in a table whose values rise, −1 in one whose values fall. -/
def transposed (sign : Int) (p : LensPoint) : LensPoint := ⟨sign * p.value, p.counts⟩

@[simp] theorem transposed_counts (sign : Int) (p : LensPoint) : (transposed sign p).counts = sign * p.value := rfl

@[simp] theorem transposed_value (sign : Int) (p : LensPoint) : (transposed sign p).value = p.counts := rfl

theorem head?_map_transposed (sign : Int) {table : List LensPoint} {first : LensPoint}
    (h : table.head? = some first) : (table.map (transposed sign)).head? = some (transposed sign first) := by
  rw [List.head?_map, h, Option.map_some]

theorem getLast?_map_transposed (sign : Int) {table : List LensPoint} {last : LensPoint}
    (h : table.getLast? = some last) : (table.map (transposed sign)).getLast? = some (transposed sign last) := by
  rw [List.getLast?_map, h, Option.map_some]

theorem getElem?_map_transposed (sign : Int) {table : List LensPoint} {k : Nat} {p : LensPoint}
    (h : table[k]? = some p) : (table.map (transposed sign))[k]? = some (transposed sign p) := by
  rw [List.getElem?_map, h, Option.map_some]

theorem tableEnds_eq_some {table : List LensPoint} {first last : LensPoint} (hfirst : table.head? = some first)
    (hlast : table.getLast? = some last) : tableEnds table = some (first, last) := by
  obtain ⟨rest, rfl⟩ := List.head?_eq_some_iff.1 hfirst
  rw [List.getLast?_eq_getLast_of_ne_nil (List.cons_ne_nil first rest), Option.some.injEq] at hlast
  rw [tableEnds, hlast]

theorem exists_sign_rising {table : List LensPoint}
    (h : table.Pairwise (fun a b => a.value < b.value) ∨ table.Pairwise (fun a b => b.value < a.value)) :
    ∃ sign : Int, (sign = 1 ∨ sign = -1) ∧
      (table.map (transposed sign)).Pairwise (fun a b => a.counts < b.counts) := by
  rcases h with rises | falls
  · exact ⟨1, .inl rfl, List.pairwise_map.2 (rises.imp (by simp))⟩
  · exact ⟨-1, .inr rfl, List.pairwise_map.2 (falls.imp (by simp))⟩

theorem between_iff {x z v : Int} : between x z v = true ↔ (x ≤ v ∧ v ≤ z) ∨ (z ≤ v ∧ v ≤ x) := by
  simp [between]

section Sign
variable {sign : Int} (hsign : sign = 1 ∨ sign = -1)
include hsign

theorem abs_sub_eq_sign_mul_sub {x y : Int} (h : sign * x ≤ sign * y) : |y - x| = sign * y - sign * x := by
  rw [← abs_of_nonneg (sub_nonneg.2 h), ← mul_sub, abs_mul]
  rcases hsign with rfl | rfl <;> simp

/-- In a falling table both differences of values are negative (R132), so the quotient stays the same. -/
theorem segmentAt_transposed {a b : LensPoint} (v : Int) (hab : a.value ≠ b.value) :
    segmentAt (transposed sign a) (transposed sign b) (sign * v) =
      roundHalfUp (a.counts * (b.value - a.value) + (b.counts - a.counts) * (v - a.value)) (b.value - a.value) := by
  rw [roundHalfUp_mul_add _ _ (by omega)]
  unfold segmentAt
  rcases hsign with rfl | rfl
  · simp
  · rw [← roundHalfUp_neg_neg]
    simp only [transposed_counts, transposed_value]
    ring_nf

theorem between_iff_of_le {x z v : Int} (h : sign * x ≤ sign * z) :
    between x z v = true ↔ sign * x ≤ sign * v ∧ sign * v ≤ sign * z := by
  rw [between_iff]
  rcases hsign with rfl | rfl <;> omega

theorem inverseSegment_eq_forwardMap {table : List LensPoint} {first : LensPoint} {v : Int}
    (hfirst : table.head? = some first)
    (rising : (table.map (transposed sign)).Pairwise (fun a b => a.counts < b.counts))
    (hv : sign * first.value ≤ sign * v) :
    inverseSegment table v = forwardMap (table.map (transposed sign)) (sign * v) := by
  induction table generalizing first with
  | nil => simp at hfirst
  | cons a rest ih =>
    obtain rfl : a = first := by simpa using hfirst
    cases rest with
    | nil => rfl
    | cons b rest =>
      have hab : sign * a.value < sign * b.value := List.rel_of_pairwise_cons rising List.mem_cons_self
      have holds := between_iff_of_le hsign (v := v) hab.le
      rw [inverseSegment]
      split
      case isTrue h =>
        rw [← segmentAt_transposed hsign v fun h => hab.ne (by rw [h])]
        exact (forwardMap_of_first_segment _ hab hv (holds.1 h).2).symm
      case isFalse h =>
        have hbv : sign * b.value ≤ sign * v := le_of_not_ge fun hvb => h (holds.2 ⟨hv, hvb⟩)
        rw [ih rfl rising.of_cons hbv]
        exact (forwardMap_drop_first rising hbv).symm

end Sign

/-! ### The inverse map (R132) -/

section Ends
variable {table : List LensPoint} {first last : LensPoint} (hfirst : table.head? = some first)
  (hlast : table.getLast? = some last)
include hfirst hlast

theorem inverseMap_of_before_first {v : Int}
    (hv : (v < first.value ∧ first.value < last.value) ∨ (first.value < v ∧ last.value < first.value)) :
    inverseMap table v = (first.counts, true) := by
  have outside : ¬ between first.value last.value v = true := by rw [between_iff]; omega
  have passed_first : (first.value < last.value) = (v < first.value) := by rw [eq_iff_iff]; omega
  simp only [inverseMap, tableEnds_eq_some hfirst hlast, if_neg outside, if_pos passed_first]

theorem inverseMap_of_beyond_last {v : Int}
    (hv : (last.value < v ∧ first.value < last.value) ∨ (v < last.value ∧ last.value < first.value)) :
    inverseMap table v = (last.counts, true) := by
  have outside : ¬ between first.value last.value v = true := by rw [between_iff]; omega
  have passed_last : ¬ (first.value < last.value) = (v < first.value) := by rw [eq_iff_iff]; omega
  simp only [inverseMap, tableEnds_eq_some hfirst hlast, if_neg outside, if_neg passed_last]

variable {sign : Int} (hsign : sign = 1 ∨ sign = -1)
  (rising : (table.map (transposed sign)).Pairwise (fun a b => a.counts < b.counts))
include hsign rising

/-- Between two points of the table the inverse map does not clamp. -/
theorem inverseMap_eq_forwardMap {p q : LensPoint} {v : Int} (hp : p ∈ table) (hq : q ∈ table)
    (hpv : sign * p.value ≤ sign * v) (hvq : sign * v ≤ sign * q.value) :
    inverseMap table v = (forwardMap (table.map (transposed sign)) (sign * v), false) := by
  have low : sign * first.value ≤ sign * v :=
    (first_counts_le (head?_map_transposed sign hfirst) rising (List.mem_map_of_mem hp)).trans hpv
  have high : sign * v ≤ sign * last.value :=
    hvq.trans (le_last_counts (getLast?_map_transposed sign hlast) rising (List.mem_map_of_mem hq))
  have within := (between_iff_of_le hsign (low.trans high)).2 ⟨low, high⟩
  simp only [inverseMap, tableEnds_eq_some hfirst hlast, if_pos within,
    inverseSegment_eq_forwardMap hsign hfirst rising low]

theorem inverseMap_of_mem {p : LensPoint} (hp : p ∈ table) : inverseMap table p.value = (p.counts, false) := by
  rw [inverseMap_eq_forwardMap hfirst hlast hsign rising hp hp le_rfl le_rfl]
  exact Prod.ext (forwardMap_of_mem rising (List.mem_map_of_mem (f := transposed sign) hp)) rfl

theorem inverseMap_of_segment {k : Nat} {a b : LensPoint} {v : Int} (ha : table[k]? = some a)
    (hb : table[k + 1]? = some b) (hav : sign * a.value ≤ sign * v) (hvb : sign * v ≤ sign * b.value) :
    inverseMap table v = (segmentAt (transposed sign a) (transposed sign b) (sign * v), false) := by
  rw [inverseMap_eq_forwardMap hfirst hlast hsign rising (List.mem_of_getElem? ha) (List.mem_of_getElem? hb) hav hvb,
    forwardMap_of_segment rising (getElem?_map_transposed sign ha) (getElem?_map_transposed sign hb) hav hvb]

end Ends

/-! ### The obligation -/

/-- Settles O53: the forward map segment by segment, the inverse map as the forward map of the transposed table. -/
theorem lensMapsInterpolate : Obligations.LensMapsInterpolate := by
  unfold Obligations.LensMapsInterpolate
  intro table first last hfirst hlast _ rising monotone
  obtain ⟨sign, hsign, rising'⟩ := exists_sign_rising monotone
  refine ⟨fun c => ⟨forwardMap_of_lt_first hfirst, fun hc => forwardMap_of_last_le hlast rising hc.le, ?forward⟩,
    fun p hp => ⟨forwardMap_of_mem rising hp, inverseMap_of_mem hfirst hlast hsign rising' hp⟩,
    fun v => ⟨inverseMap_of_before_first hfirst hlast, inverseMap_of_beyond_last hfirst hlast, ?inverse⟩⟩
  case forward =>
    intro k a b ha hb hac hcb
    rw [forwardMap_of_segment rising ha hb hac hcb]
    exact segmentAt_nearest c (counts_lt_of_getElem? rising ha hb)
  case inverse =>
    intro k a b ha hb hv
    have hcounts := counts_lt_of_getElem? rising ha hb
    have hvalues := counts_lt_of_getElem? rising' (getElem?_map_transposed sign ha) (getElem?_map_transposed sign hb)
    obtain ⟨hav, hvb⟩ := (between_iff_of_le hsign hvalues.le).1 (between_iff.2 hv)
    obtain ⟨low, high⟩ := segmentAt_mem hvalues hcounts.le hav hvb
    rw [inverseMap_of_segment hfirst hlast hsign rising' ha hb hav hvb, abs_sub_eq_sign_mul_sub hsign hvalues.le,
      abs_sub_eq_sign_mul_sub hsign hav]
    exact ⟨rfl, low, high, segmentAt_nearest (sign * v) hvalues⟩

end Sys2Proof.Proofs
end
